-- ==== Sys2Proof/Word.lean ====
section
/-! DEFINITION. The word types of the HZ-416: bytes of the serial lines and Device Clock values.
They carry no arithmetic of their own; byte order and field reading stand in Machine/Bytes.lean. -/

namespace Sys2Proof

/-- One byte of the system line, of a scanner line or of a record (section 1.5). -/
abbrev Byte := BitVec 8

/-- A value of the 48-bit Device Clock, in milliseconds (R185). -/
abbrev Clock := BitVec 48

/-- A lane number, 0 to 3 (section 1.4). -/
abbrev LaneId := Fin 4

end Sys2Proof
end

