-- ==== Sys2Proof/Syntax.lean ====
section
/-! DEFINITION. The commands of the HZ-416: one constructor for each of the 52 rows of
spec/opcode_table.json, with the row's operands. A host request carries the raw bytes of its body,
so that its length and every field are judged by the rule of its chapter (R182, R188). -/

namespace Sys2Proof

/-- The two scanner ports of a lane: A, the counter scanner, and B, the handheld (chapter 4). -/
inductive PortId where
  | A
  | B
  deriving DecidableEq, Repr

/-- A character taken on SRXD: its value, and whether it is damaged (a framing error or a break, R177, R179). -/
structure LineChar where
  value : Byte
  damaged : Bool
  deriving DecidableEq, Repr

/-- The quality of a character received on a scanner line (R60). A break is a line held low for longer
than one character, taken as one character of value 00h with a framing error. -/
inductive Quality where
  | good
  | framing
  | parity
  | brk
  deriving DecidableEq, Repr

/-- A character received on a scanner line, at the end of its stop bit (R60). -/
structure ScanChar where
  value : Byte
  quality : Quality
  deriving DecidableEq, Repr

/-- What the outside gives a lane's 26 pins at the moment they are read: bit n of `level` and `attached` is line n, and bit p of
`contacts` is set while position p is closed. A line with nothing attached is neither driven nor pulled from outside (R16, log
entry 19). -/
structure PinInputs where
  level : BitVec 26
  attached : BitVec 26
  contacts : BitVec 128
  deriving DecidableEq, Repr

/-- What the outside gives the pins of the four lanes at one moment. -/
abbrev Outside := Vector PinInputs 4

/-- A good frame that may be a LINES_READ: its body, and what the outside gives the pins at the moment it is served (R16, R181). -/
structure LineFrame where
  body : List Byte
  outside : Outside
  deriving DecidableEq, Repr

/-- Characters received on SRXD, and what the outside gives the pins when the last of them is taken: the moment at which every
frame found among them is served (R16, R179; log entries 7 and 19). -/
structure LineRun where
  chars : List LineChar
  outside : Outside
  deriving DecidableEq, Repr

/-- The commands, in the order of spec/opcode_table.json. -/
inductive Instr where
  /-- LANE_CONFIG (R7). -/
  | laneConfig (body : List Byte)
  /-- START (R2). -/
  | start (body : List Byte)
  /-- STOP (R3). -/
  | stop (body : List Byte)
  /-- RESET_LANE (R5). -/
  | resetLane (body : List Byte)
  /-- LINES_SET (R13). -/
  | linesSet (body : List Byte)
  /-- LINES_DIR (R14). -/
  | linesDir (body : List Byte)
  /-- LINES_READ (R16). -/
  | linesRead (frame : LineFrame)
  /-- KEYMAP_WRITE (R40). -/
  | keymapWrite (body : List Byte)
  /-- KEYMAP_READ (R42). -/
  | keymapRead (body : List Byte)
  /-- PORT_CONFIG (R57). -/
  | portConfig (body : List Byte)
  /-- SCANNER_SEND (R81). -/
  | scannerSend (body : List Byte)
  /-- FILTER_CONFIG (R94). -/
  | filterConfig (body : List Byte)
  /-- SYMBOLOGY_WRITE (R93). -/
  | symbologyWrite (body : List Byte)
  /-- FORGET (R112). -/
  | forget (body : List Byte)
  /-- FETCH (R134). -/
  | fetch (body : List Byte)
  /-- PURGE (R136). -/
  | purge (body : List Byte)
  /-- DRAWER_CONFIG (R142). -/
  | drawerConfig (body : List Byte)
  /-- KICK (R147). -/
  | kick (body : List Byte)
  /-- STATUS (R164). -/
  | status (body : List Byte)
  /-- ACK_FLAGS (R166). -/
  | ackFlags (body : List Byte)
  /-- ATTN_MASK (R168). -/
  | attnMask (body : List Byte)
  /-- CLEAR_FAULT (R172). -/
  | clearFault (body : List Byte)
  /-- LATCH_COUNTERS (R174). -/
  | latchCounters (body : List Byte)
  /-- READ_COUNTERS (R175). -/
  | readCounters (body : List Byte)
  /-- CLEAR_COUNTERS (R176). -/
  | clearCounters (body : List Byte)
  /-- IDENTIFY (R184). -/
  | identify (body : List Byte)
  /-- GET_TIME (R184). -/
  | getTime (body : List Byte)
  /-- SET_TIME (R185). -/
  | setTime (body : List Byte)
  /-- RESET_DEVICE (R186). -/
  | resetDevice (body : List Byte)
  /-- UNKNOWN_KIND: a good frame whose kind byte names no request (R182). -/
  | unknownKind (kind : Byte) (frame : LineFrame)
  /-- BAD_FRAME: the characters received on SRXD that the receiver takes, the last of which shows a frame
  to be bad (R179). Log entry 7. -/
  | badFrame (run : LineRun)
  /-- GAP_LIMIT_EXPIRY (R180). -/
  | gapLimitExpiry
  /-- INBOUND_OVERRUN: a good frame that finds the holding area full (R181). -/
  | inboundOverrun (kind : Byte) (frame : LineFrame)
  /-- FRAME_DISCARDED_AT_RESET: a good frame between a served RESET_DEVICE and the reset (R186). -/
  | frameDiscardedAtReset (kind : Byte) (frame : LineFrame)
  /-- REPLY_SENT (R181). -/
  | replySent
  /-- RESET_DEVICE_ACTS, with the strap levels read (R186). -/
  | resetDeviceActs (straps : BitVec 2)
  /-- POWER_ON_RESET, with the strap levels read (R187). -/
  | powerOnReset (straps : BitVec 2)
  /-- SAMPLE_PASS_END: bit p of `closed` is set when the columns read position p closed (R19, R20). -/
  | samplePassEnd (lane : LaneId) (closed : BitVec 128)
  /-- SCANNER_CHARACTER_RECEIVED (R64). -/
  | scannerCharacterReceived (lane : LaneId) (port : PortId) (char : ScanChar)
  /-- GAP_TIMER_EXPIRY (R66). -/
  | gapTimerExpiry (lane : LaneId) (port : PortId)
  /-- GROWTH_REPORT (R132). -/
  | growthReport (lane : LaneId)
  /-- TRANSMIT_BYTE_SENT (R76). -/
  | transmitByteSent (lane : LaneId) (port : PortId)
  /-- REPLY_TIMER_EXPIRY (R86). -/
  | replyTimerExpiry (lane : LaneId) (port : PortId)
  /-- RAW_SENSOR_CHANGE: the DSENSE pin moves to the level given (R145). -/
  | rawSensorChange (lane : LaneId) (high : Bool)
  /-- DEBOUNCED_CHANGE (R145). -/
  | debouncedChange (lane : LaneId)
  /-- PULSE_TIMER_EXPIRY (R149). -/
  | pulseTimerExpiry (lane : LaneId)
  /-- RETRY_TIMER_EXPIRY (R150). -/
  | retryTimerExpiry (lane : LaneId)
  /-- OPEN_TIMER_EXPIRY (R154). -/
  | openTimerExpiry (lane : LaneId)
  /-- INH_N_ASSERTED: the lanes in the order in which the assertion reaches their Drawer Controllers; the
  lanes not named follow in number order (R156, log entry 14). -/
  | inhNAsserted (order : List LaneId)
  /-- INH_N_RELEASED (R157). -/
  | inhNReleased
  /-- SCANNER_START_BIT (R66). -/
  | scannerStartBit (lane : LaneId) (port : PortId)
  /-- SYSTEM_LINE_START_BIT (R180). -/
  | systemLineStartBit
  deriving DecidableEq, Repr

end Sys2Proof
end

