-- ==== Sys2Proof/Config.lean ====
section
/-! DEFINITION. What is fixed for every HZ-416: the sizes and numbers that no command changes.
The manual leaves no implementation-defined constant open, so nothing here is a free value. -/

namespace Sys2Proof.Config

/-- Slots of the Event Store pool (R115). -/
def poolSlots : Nat := 512

/-- Bytes of one slot (R115). -/
def slotBytes : Nat := 16

/-- Bytes a port's transmit queue holds (R75). -/
def txQueueBytes : Nat := 8

/-- Code bytes a port's assembly buffer holds (R64). -/
def codeBytes : Nat := 48

/-- Entries of a lane's recent-code table (R108). -/
def recentEntries : Nat := 8

/-- Frames the inbound holding area holds (R181). -/
def areaFrames : Nat := 2

/-- Largest reply body, in bytes (R134, R183). -/
def replyBytes : Nat := 250

/-- The part code that IDENTIFY reports (R184). -/
def partCode : BitVec 16 := 0x0416

/-- The revision number that IDENTIFY reports (R184). -/
def revision : Byte := 1

/-- Milliseconds of silence within a frame that the gap limit allows (R180). -/
def gapLimit : Nat := 20

end Sys2Proof.Config
end

