-- ==== Sys2Proof/Machine/State.lean ====
section
/-! DEFINITION. The state of the HZ-416 as plain data, its value after reset, and the model's stop reasons.
A timer is `none` while stopped, and otherwise the reading of the time base `State.elapsed` at which it
runs out (the mark it started at, where its docstring says so). SET_TIME moves `State.clock` alone (R185). -/

namespace Sys2Proof.Machine

/-- The lane state (R1). -/
inductive LaneState where
  | ready
  | running
  deriving DecidableEq, Repr

/-- The class of a keymap entry (R38). -/
inductive KeyClass where
  | ignore
  | normal
  | shift
  | lockContact
  | drawer
  | clearRecent
  deriving DecidableEq, Repr

/-- A keymap entry (R38). For class LOCK_CONTACT the base code holds the lock index. -/
structure KeymapEntry where
  cls : KeyClass := .normal
  base : BitVec 16 := 0
  shifted : BitVec 16 := 0
  repeats : Bool := true
  deriving DecidableEq, Repr

/-- The debounce state of a position (R24); `held` marks a PRESS_PENDING(D) held by rollover (R31). -/
inductive KeyState where
  | up
  | pressPending (k : Nat) (held : Bool)
  | down
  | releasePending (k : Nat)
  deriving DecidableEq, Repr

/-- An entry of the held-key list (R43). For a lock contact `code` is the captured lock index. -/
structure HeldKey where
  pos : Nat
  cls : KeyClass
  code : BitVec 16
  layer : Bool
  repeats : Bool
  mark : Nat
  deriving DecidableEq, Repr

/-- The repeating key: position, repeat number, next due mark on the time base (R48). -/
structure Repeating where
  pos : Nat
  number : Nat
  due : Nat
  deriving DecidableEq, Repr

/-- The lock position (R51). -/
inductive LockPos where
  | index (i : Nat)
  | inTransit
  | noLock
  deriving DecidableEq, Repr

/-- The lane configuration with the defaults of Table 1-7. Typematic times are in units of 10 ms; bit i of
a mask is lock index i. -/
structure LaneConfig where
  rows : Nat := 0
  cols : Nat := 16
  period : Nat := 4
  pressCount : Nat := 3
  releaseCount : Nat := 3
  rollover : Nat := 4
  diodes : Bool := false
  typeDelay : Nat := 50
  typeInterval : Nat := 10
  reserve : Nat := 64
  cap : Nat := 256
  margin : Nat := 8
  hysteresis : Nat := 8
  scanMask : Byte := 0x3F
  kickMask : Byte := 0x3F
  pauseMask : Byte := 0
  deriving DecidableEq, Repr

/-- The parity setting of a port (Table 4-2). -/
inductive Parity where
  | none
  | even
  | odd
  deriving DecidableEq, Repr

/-- A byte field of a port configuration that may be absent: its presence mark, and the value kept as it
stood in the request (R58). -/
structure OptByte where
  present : Bool := false
  value : Byte := 0
  deriving DecidableEq, Repr

/-- The port configuration with the defaults of Table 4-2. -/
structure PortConfig where
  enabled : Bool := false
  rate : Nat := 3
  sevenBits : Bool := false
  parity : Parity := .none
  pre : OptByte := {}
  terminator : Byte := 0x0D
  replyMark : OptByte := {}
  gapTimeout : Nat := 50
  goodTone : OptByte := {}
  badTone : OptByte := {}
  replyTimeout : Nat := 50
  holdActiveLow : Bool := false
  deriving DecidableEq, Repr

/-- The receiver state of a port (Table 4-3); `ignoring` while its lane is READY or its port disabled (Table 4-5). -/
inductive PortRx where
  | ignoring
  | hunt
  | assembly
  | skip
  deriving DecidableEq, Repr

/-- The record in a hand-off slot (R70). -/
structure SlotRecord where
  code : List Byte
  damaged : Bool
  time : Clock
  deriving DecidableEq, Repr

/-- A byte of the transmit queue; `last` marks the last byte of an expecting command (R75). -/
structure TxByte where
  value : Byte
  last : Bool := false
  deriving DecidableEq, Repr

/-- The byte in transmission, with the format it began with (R76, R77). -/
structure TxNow where
  value : Byte
  last : Bool
  rate : Nat
  sevenBits : Bool
  parity : Parity
  deriving DecidableEq, Repr

/-- The expectation state of a port (Table 5-1). -/
inductive Expect where
  | idle
  | awaitingSend
  | timing
  | timedOut
  deriving DecidableEq, Repr

/-- A scanner port (Table 4-1). Every receiver mark and buffer that the spec gives no reset value for is
clear (log entries 11 and 22). -/
structure Port where
  cfg : PortConfig := {}
  rx : PortRx := .ignoring
  buf : List Byte := []
  damaged : Bool := false
  firstDamaged : Bool := false
  lineFault : Bool := false
  gap : Option Nat := Option.none
  charStart : Bool := false
  charDrop : Bool := false
  slot : Option SlotRecord := Option.none
  txq : List TxByte := []
  tx : Option TxNow := Option.none
  expect : Expect := .idle
  replyTimer : Option Nat := Option.none
  hold : Bool := true
  deriving DecidableEq, Repr

/-- The check rule of a symbology entry (R92). -/
inductive CheckRule where
  | none
  | mod10w31
  | mod10w13
  deriving DecidableEq, Repr

/-- A Symbology Table entry; empty with the values R92 gives an empty entry, and mark byte 0 (log entry 22). -/
structure SymEntry where
  present : Bool := false
  mark : Byte := 0
  minLen : Nat := 1
  maxLen : Nat := 47
  rule : CheckRule := .none
  deriving DecidableEq, Repr

/-- A recent-code table entry (R108). -/
structure RecentEntry where
  code : List Byte
  port : PortId
  time : Clock
  deriving DecidableEq, Repr

/-- The reason of a rejection (Table 11-4). -/
inductive RejectReason where
  | locked
  | lineError
  | unlisted
  | length
  | notNumeric
  | check
  deriving DecidableEq, Repr

/-- The cause of a DRAWER_OPEN record (Table 11-4). -/
inductive OpenCause where
  | commanded
  | uncommanded
  | atStart
  deriving DecidableEq, Repr

/-- The cause of a DRAWER_ABORT record (Table 11-4). -/
inductive AbortCause where
  | inhibit
  | stop
  deriving DecidableEq, Repr

/-- The kind and body of a record (Table 7-1, Table 11-9). -/
inductive RecBody where
  | keyDown (pos : Nat) (code : BitVec 16) (cls : KeyClass)
  | keyUp (pos : Nat) (code : BitVec 16) (heldTime : Nat)
  | keyRepeat (pos : Nat) (code : BitVec 16) (number : Nat)
  | lock (new : Nat) (previous : Option Nat)
  | scan (port : PortId) (index : Nat) (code : List Byte)
  | scanReject (port : PortId) (index : Nat) (reason : RejectReason) (length : Nat)
  | scannerReply (port : PortId) (bytes : List Byte)
  | scannerTimeout (port : PortId)
  | drawerOpen (cause : OpenCause) (tries : Nat)
  | drawerClosed (duration : Nat)
  | drawerOverdue (seconds : Nat)
  | drawerFail (tries : Nat)
  | drawerAbort (cause : AbortCause) (tries : Nat)
  | laneStart
  deriving DecidableEq, Repr

/-- The four flags of a record header (R116). -/
structure RecFlags where
  delayed : Bool := false
  truncated : Bool := false
  damaged : Bool := false
  layer : Bool := false
  deriving DecidableEq, Repr

/-- A record of a lane queue: header and body (R116). -/
structure Rec where
  body : RecBody
  flags : RecFlags := {}
  lostBefore : Nat := 0
  stamp : Clock
  deriving DecidableEq, Repr

/-- The drawer state (R141). -/
inductive DrawerState where
  | settling
  | shut
  | kickPulse
  | kickWait
  | opened
  | overdue
  deriving DecidableEq, Repr

/-- The timing fields of the drawer settings, with the defaults of Table 8-1. -/
structure Timing where
  width : Nat := 80
  retryPeriod : Nat := 600
  maxTries : Nat := 2
  alarm : Nat := 60
  deriving DecidableEq, Repr

/-- The open timer (R153): stopped; running with the count it had at a mark of the time base; held with its count. -/
inductive OpenTimer where
  | stopped
  | running (count : Nat) (since : Nat)
  | held (count : Nat)
  deriving DecidableEq, Repr

/-- A Drawer Controller (R141, Table 8-1). `measure` is the mark at which the stability measurement of R145
in progress began; `dsense` is the level of the DSENSE pin. -/
structure Drawer where
  st : DrawerState := .settling
  tries : Nat := 0
  kick : Bool := false
  pulse : Option Nat := Option.none
  retry : Option Nat := Option.none
  openTimer : OpenTimer := .stopped
  openMark : Nat := 0
  measure : Option Nat := Option.none
  staged : Timing := {}
  active : Timing := {}
  openHigh : Bool := true
  debounce : Nat := 20
  localKick : Bool := false
  dsense : Bool := false
  deriving DecidableEq, Repr

/-- The ten fault kinds, with `none` for the zeroed record (Table 9-2, Table 11-4). -/
inductive FaultKind where
  | none
  | lineFraming
  | lineParity
  | recordTooLong
  | recordFragment
  | recordOverrun
  | replyTimeout
  | replyLate
  | replyUnexpected
  | ghost
  | kickNoOpen
  deriving DecidableEq, Repr

/-- The source of a fault, with `none` for the zeroed record (R170, Table 11-4). -/
inductive FaultSource where
  | none
  | keyboard
  | port (p : PortId)
  | drawer
  deriving DecidableEq, Repr

/-- A Fault Record, unlocked and zeroed (R170). -/
structure FaultRecord where
  locked : Bool := false
  kind : FaultKind := .none
  source : FaultSource := .none
  time : Clock := 0
  detail : BitVec 16 := 0
  further : Nat := 0
  deriving DecidableEq, Repr

/-- A full counter latch: the Device Clock when it was filled and the twelve values (R174). -/
structure LatchImage where
  time : Clock
  values : Vector (BitVec 32) 12
  deriving DecidableEq, Repr

/-- The keymap at power-on reset: NORMAL, base code the position, shifted code the position plus 128, repeat on (R38). -/
def defaultKeymap : Vector KeymapEntry 128 :=
  Vector.ofFn fun p : Fin 128 =>
    { cls := .normal, base := BitVec.ofNat 16 p.val, shifted := BitVec.ofNat 16 (p.val + 128), repeats := true }

/-- A lane section, with the values of power-on reset. `rowTurn` is the row driven low in its turn (R19); `lineLevel`,
`lineAttached` and `contacts` are the outside's, as last given by a LINES_READ and, the contacts, by a pass end. -/
structure Lane where
  run : LaneState := .ready
  cfg : LaneConfig := {}
  lineLatch : BitVec 26 := 0
  lineDir : BitVec 26 := 0
  pullUp : Bool := false
  lineLevel : BitVec 26 := 0
  lineAttached : BitVec 26 := 0
  rowTurn : Option Nat := Option.none
  contacts : BitVec 128 := 0
  keys : Vector KeyState 128 := Vector.replicate 128 .up
  ghost : Bool := false
  passTimer : Option Nat := Option.none
  keymap : Vector KeymapEntry 128 := defaultKeymap
  held : List HeldKey := []
  repeating : Option Repeating := Option.none
  lock : LockPos := .noLock
  lastLock : Option Nat := Option.none
  portA : Port := {}
  portB : Port := {}
  recent : List RecentEntry := []
  drawer : Drawer := {}
  fault : FaultRecord := {}
  counters : Vector (BitVec 32) 12 := Vector.replicate 12 0
  counterLatch : Option LatchImage := Option.none
  queue : List Rec := []
  lost : Nat := 0
  storeHigh : Bool := false
  growth : Bool := false
  sticky : Byte := 0
  reported : Byte := 0
  enable : Byte := 0
  deriving DecidableEq, Repr

/-- The system line's frame receiver: hunting, or in a frame with the bytes taken after its start byte (R179). -/
inductive LineRx where
  | hunt
  | frame (taken : List Byte)
  deriving DecidableEq, Repr

/-- A frame in the inbound holding area, with the reply formed when it was served (R181, R183). -/
structure HeldFrame where
  kind : Byte
  body : List Byte
  reply : List Byte
  deriving DecidableEq, Repr

/-- The whole state of the part, with the queue of the commands that wait. The field values given here are
those of power-on reset; inputs and unstated values are those of log entries 9, 11, 19 and 22. -/
structure State where
  pending : List Instr := []
  lanes : Vector Lane 4 := Vector.replicate 4 {}
  symbology : Vector SymEntry 8 := Vector.replicate 8 {}
  strict : Bool := false
  sameWindow : Nat := 500
  crossWindow : Nat := 800
  clock : Clock := 0
  elapsed : Nat := 0
  link : Bool := false
  linkReported : Bool := false
  deviceEnable : Byte := 0
  attn : Bool := false
  inhibit : Bool := false
  straps : BitVec 2 := 0
  rate : BitVec 2 := 0
  rx : LineRx := .hunt
  lineGap : Option Nat := Option.none
  lineStart : Bool := false
  lineDrop : Bool := false
  area : List HeldFrame := []
  resetArmed : Bool := false
  badFrames : Nat := 0
  overruns : Nat := 0
  deriving DecidableEq, Repr

/-- The part right after power-on reset (R187), with an empty queue. -/
def State.reset : State := {}

/-- The part never stops with a fault: no rule of the spec names a condition that stops it, so this type
has no constructor and nothing raises one. -/
inductive Fault where
  deriving DecidableEq, Repr

/-- Why the model gives a command no meaning. -/
inductive Refusal where
  /-- Raised by exec's arm of a command that has no meaning yet. Safe: the model stops. -/
  | notModelled (mnemonic : String)
  deriving DecidableEq, Repr

end Sys2Proof.Machine
end

