-- ==== Sys2Proof/Machine/Bytes.lean ====
section
/-! DEFINITION. Byte order and the reading and sending of fields: least significant byte first (section 1.5, 11.1). -/

namespace Sys2Proof.Machine

/-- The low byte of a number. -/
def byteOf (n : Nat) : Byte := BitVec.ofNat 8 n

/-- A number sent in two bytes, least significant first. -/
def le16 (n : Nat) : List Byte := [byteOf n, byteOf (n / 256)]

/-- A number sent in four bytes, least significant first. -/
def le32 (n : Nat) : List Byte := le16 n ++ le16 (n / 65536)

/-- A Device Clock value sent in six bytes, least significant first. -/
def le48 (c : Clock) : List Byte := le32 c.toNat ++ le16 (c.toNat / 4294967296)

/-- The byte of a body at an offset, 0 past its end. -/
def u8 (body : List Byte) (i : Nat) : Nat := (body.getD i 0).toNat

/-- The 16-bit field of a body at an offset (R188). -/
def u16 (body : List Byte) (i : Nat) : Nat := u8 body i + 256 * u8 body (i + 1)

/-- The 32-bit field of a body at an offset (R188). -/
def u32 (body : List Byte) (i : Nat) : Nat := u16 body i + 65536 * u16 body (i + 2)

/-- The 48-bit field of a body at an offset (R188). -/
def u48 (body : List Byte) (i : Nat) : Nat := u32 body i + 4294967296 * u16 body (i + 4)

/-- An off/on field sent as 00h or 01h (Table 11-4). -/
def boolByte (b : Bool) : Byte := if b then 1 else 0

/-- Clamping: a number brought to the nearer limit of its range (section 1.4). -/
def clamp (lo hi n : Nat) : Nat := max lo (min n hi)

/-- The check byte of a frame: the sum of the bytes after the start byte is 0 modulo 256 (R178). -/
def byteSum (bytes : List Byte) : Byte := bytes.foldl (· + ·) 0

/-- A whole frame: start byte, length byte, kind byte, body, check byte (R178, Table 11-1). -/
def frameBytes (kind : Byte) (body : List Byte) : List Byte :=
  let covered := byteOf (body.length + 1) :: kind :: body
  0x5A :: covered ++ [-(byteSum covered)]

end Sys2Proof.Machine
end

