-- ==== Sys2Proof/Machine/Records.lean ====
section
/-! DEFINITION. The bytes and slots of a record (R115, R116, Tables 7-1, 11-4, 11-8, 11-9). -/

namespace Sys2Proof.Machine

/-- The byte of a port (Table 11-4). -/
def portNum : PortId → Nat
  | .A => 0
  | .B => 1

/-- The value of a keymap class (Table 11-4). -/
def classNum : KeyClass → Nat
  | .ignore => 0
  | .normal => 1
  | .shift => 2
  | .lockContact => 3
  | .drawer => 4
  | .clearRecent => 5

/-- The value of a reject reason (Table 11-4). -/
def reasonNum : RejectReason → Nat
  | .locked => 1
  | .lineError => 2
  | .unlisted => 3
  | .length => 4
  | .notNumeric => 5
  | .check => 6

/-- The value of a DRAWER_OPEN cause (Table 11-4). -/
def openCauseNum : OpenCause → Nat
  | .commanded => 0
  | .uncommanded => 1
  | .atStart => 2

/-- The value of a DRAWER_ABORT cause (Table 11-4). -/
def abortCauseNum : AbortCause → Nat
  | .inhibit => 0
  | .stop => 1

/-- The record kind byte (Table 11-9). -/
def recordKind : RecBody → Byte
  | .keyDown _ _ _ => 0x01
  | .keyUp _ _ _ => 0x02
  | .keyRepeat _ _ _ => 0x03
  | .lock _ _ => 0x04
  | .scan _ _ _ => 0x05
  | .scanReject _ _ _ _ => 0x06
  | .scannerReply _ _ => 0x07
  | .scannerTimeout _ => 0x08
  | .drawerOpen _ _ => 0x09
  | .drawerClosed _ => 0x0A
  | .drawerOverdue _ => 0x0B
  | .drawerFail _ => 0x0C
  | .drawerAbort _ _ => 0x0D
  | .laneStart => 0x0E

/-- The body bytes of a record (Table 11-9; the port bytes of Table 11-5; R189). -/
def recordBody : RecBody → List Byte
  | .keyDown pos code cls => byteOf pos :: le16 code.toNat ++ [byteOf (classNum cls)]
  | .keyUp pos code heldTime => byteOf pos :: le16 code.toNat ++ le16 heldTime
  | .keyRepeat pos code number => byteOf pos :: le16 code.toNat ++ [byteOf number]
  | .lock new previous => [byteOf new, previous.elim 0xFF byteOf]
  | .scan port index code => byteOf (index + 16 * portNum port) :: byteOf code.length :: code
  | .scanReject port index reason length =>
      [byteOf (index + 16 * portNum port), byteOf (reasonNum reason), byteOf length]
  | .scannerReply port bytes => byteOf (bytes.length + 16 * portNum port) :: bytes
  | .scannerTimeout port => [byteOf (portNum port)]
  | .drawerOpen cause tries => [byteOf (openCauseNum cause), byteOf tries]
  | .drawerClosed duration => le32 duration
  | .drawerOverdue seconds => le16 seconds
  | .drawerFail tries => [byteOf tries]
  | .drawerAbort cause tries => [byteOf (abortCauseNum cause), byteOf tries]
  | .laneStart => []

/-- The flags byte of a record (Table 11-5). -/
def flagsByte (f : RecFlags) : Byte :=
  byteOf (f.delayed.toNat + 2 * f.truncated.toNat + 4 * f.damaged.toNat + 8 * f.layer.toNat)

/-- A record as it is stored and sent: the 9-byte header, then the body (Table 11-8). -/
def recordBytes (r : Rec) : List Byte :=
  recordKind r.body :: flagsByte r.flags :: byteOf r.lostBefore :: le48 r.stamp ++ recordBody r.body

/-- The length in bytes of a record with a body (Table 7-1). -/
def recordLength (b : RecBody) : Nat := 9 + (recordBody b).length

/-- The slots a record of b bytes holds: b / 16 rounded up (R115). -/
def slotsFor (b : Nat) : Nat := (b + (Config.slotBytes - 1)) / Config.slotBytes

/-- The slots a record holds from admission to removal (R115). -/
def recordSlots (b : RecBody) : Nat := slotsFor (recordLength b)

end Sys2Proof.Machine
end

