-- ==== Sys2Proof/Machine/Flags.lean ====
section
/-! DEFINITION. Access to lanes and ports, and the flag computations of the Attention Unit (R162, R163, R169). -/

namespace Sys2Proof.Machine

/-- The section of a lane. -/
def State.lane (s : State) (l : LaneId) : Lane := s.lanes[l]

/-- Replaces the section of a lane. -/
def State.setLane (s : State) (l : LaneId) (L : Lane) : State := { s with lanes := s.lanes.set l L }

/-- Changes the section of a lane. -/
def State.modLane (s : State) (l : LaneId) (f : Lane → Lane) : State := s.setLane l (f (s.lane l))

/-- Changes the sections of all four lanes, each by a function of its number. -/
def State.mapLanes (s : State) (f : LaneId → Lane → Lane) : State :=
  { s with lanes := #v[f 0 (s.lane 0), f 1 (s.lane 1), f 2 (s.lane 2), f 3 (s.lane 3)] }

/-- A port of a lane. -/
def Lane.port (L : Lane) : PortId → Port
  | .A => L.portA
  | .B => L.portB

/-- Changes a port of a lane. -/
def Lane.modPort (L : Lane) (p : PortId) (f : Port → Port) : Lane :=
  match p with
  | .A => { L with portA := f L.portA }
  | .B => { L with portB := f L.portB }

/-- Changes a port of a lane of the part. -/
def State.modPort (s : State) (l : LaneId) (p : PortId) (f : Port → Port) : State :=
  s.modLane l fun L => L.modPort p f

/-- The bits of the lane flags (Table 11-5). -/
def flagData : Byte := 0x01
def flagHigh : Byte := 0x02
def flagLoss : Byte := 0x04
def flagDrawer : Byte := 0x08
def flagScanner : Byte := 0x10
def flagLock : Byte := 0x20
def flagFault : Byte := 0x40

/-- The sticky lane flags: HIGH, LOSS, DRAWER, SCANNER, LOCK (Table 9-1). -/
def stickyFlags : Byte := 0x3E

/-- The bits of the device flags (Table 11-5). -/
def flagLink : Byte := 0x01
def flagInhibit : Byte := 0x02

/-- The seven flags of a lane: the sticky ones as they stand, and the level flags DATA (R118) and FAULT (R171)
from their conditions. -/
def laneFlags (L : Lane) : Byte :=
  (L.sticky &&& stickyFlags) ||| (if L.queue.isEmpty then 0 else flagData) ||| (if L.fault.locked then flagFault else 0)

/-- The two device flags: LINK (sticky), and INHIBIT, which follows INH_N (R157, R163). -/
def deviceFlags (s : State) : Byte :=
  (if s.link then flagLink else 0) ||| (if s.inhibit then flagInhibit else 0)

/-- Raising a sticky lane flag sets it and removes it from the lane's reported set (R162). -/
def raiseLane (f : Byte) (L : Lane) : Lane := { L with sticky := L.sticky ||| f, reported := L.reported &&& ~~~f }

/-- Raising a sticky flag of a lane (R162). -/
def raise (l : LaneId) (f : Byte) (s : State) : State := s.modLane l (raiseLane f)

/-- Raising LINK (R162). -/
def raiseLink (s : State) : State := { s with link := true, linkReported := false }

/-- Whether a scope has a flag that is set and enabled (R169). -/
def scopeCalls (flags enable : Byte) : Bool := decide (flags &&& enable ≠ 0)

/-- The level of ATTN: asserted while some scope has a flag both set and enabled (R169). -/
def attnLevel (s : State) : Bool :=
  scopeCalls (deviceFlags s) s.deviceEnable ||
    s.lanes.toList.any fun L => scopeCalls (laneFlags L) L.enable

end Sys2Proof.Machine
end

