-- ==== Sys2Proof/Machine/Ops.lean ====
section
/-! DEFINITION. The operations the commands share: the gates of the lock position, timers, counters, the
Fault Record, the Event Store, the transmit queue, and the outputs judged at the end of an event. -/

namespace Sys2Proof.Machine

/-! ### The gates of the lock position -/

/-- Whether a lock mask holds a lock index. -/
def inMask (mask : Byte) (i : Nat) : Bool := mask.getLsbD i

/-- The scan gate (Table 3-2). -/
def scanAllowed (L : Lane) : Bool :=
  match L.lock with
  | .noLock => true
  | .inTransit => false
  | .index i => inMask L.cfg.scanMask i

/-- The kick gate (Table 3-2). -/
def kickAllowed (L : Lane) : Bool :=
  match L.lock with
  | .noLock => true
  | .inTransit => false
  | .index i => inMask L.cfg.kickMask i

/-- The open alarm gate (Table 3-2). -/
def alarmPaused (L : Lane) : Bool :=
  match L.lock with
  | .noLock => false
  | .inTransit => false
  | .index i => inMask L.cfg.pauseMask i

/-! ### Timers -/

/-- Whether a timer is running and its time has been reached (log entry 3). -/
def timerDue (now : Nat) : Option Nat → Bool
  | none => false
  | some t => decide (t ≤ now)

/-! ### Counters (R173) -/

/-- The twelve counters in the index order of Table 9-3. -/
inductive Counter where
  | keysAccepted
  | repeatsWithheld
  | rolloverBlocked
  | ghostEpisodes
  | scansAccepted
  | dupSamePort
  | dupCrossPort
  | scansRejected
  | recordsLost
  | drawerOpens
  | uncommandedOpens
  | kickFailures
  deriving DecidableEq, Repr

/-- The index of a counter (Table 9-3). -/
def counterIndex : Counter → Fin 12
  | .keysAccepted => 0
  | .repeatsWithheld => 1
  | .rolloverBlocked => 2
  | .ghostEpisodes => 3
  | .scansAccepted => 4
  | .dupSamePort => 5
  | .dupCrossPort => 6
  | .scansRejected => 7
  | .recordsLost => 8
  | .drawerOpens => 9
  | .uncommandedOpens => 10
  | .kickFailures => 11

/-- Increments a counter of a lane section by 1, wrapping at 32 bits (R173). -/
def countLane (c : Counter) (L : Lane) : Lane :=
  { L with counters := L.counters.set (counterIndex c) (L.counters[counterIndex c] + 1) }

/-- Increments a counter of a lane (R173). -/
def count (l : LaneId) (c : Counter) (s : State) : State := s.modLane l (countLane c)

/-! ### The Fault Record (R170, R171) -/

/-- A Fault Record taking a fault: locked with it when unlocked, else its further count raised (R171). -/
def FaultRecord.take (kind : FaultKind) (source : FaultSource) (time : Clock) (detail : Nat) (r : FaultRecord) : FaultRecord :=
  if r.locked then { r with further := min (r.further + 1) 255 }
  else { locked := true, kind := kind, source := source, time := time, detail := BitVec.ofNat 16 detail, further := 0 }

/-- A fault offered to a lane's Fault Record, with the Device Clock as its time (R68, R171). -/
def offerFault (l : LaneId) (kind : FaultKind) (source : FaultSource) (detail : Nat) (s : State) : State :=
  s.modLane l fun L => { L with fault := L.fault.take kind source s.clock detail }

/-! ### The admission arithmetic (R119, R120) -/

/-- The occupancy n of a lane: the slots of the records in its queue (R117). -/
def occupancy (L : Lane) : Nat := (L.queue.map fun r => recordSlots r.body).sum

/-- The sum of a quantity over the four lanes. -/
def sumLanes (f : Lane → Nat) (s : State) : Nat := (s.lanes.toList.map f).sum

/-- The shared use u of a lane, max(0, n − R). -/
def sharedUse (L : Lane) : Nat := occupancy L - L.cfg.reserve

/-- The shared part S, 512 − ΣR. -/
def sharedPart (s : State) : Nat := Config.poolSlots - sumLanes (fun L => L.cfg.reserve) s

/-- The free shared part F, S − Σu. R121 keeps it from being negative; log entry 18. -/
def freeShared (s : State) : Nat := sharedPart s - sumLanes sharedUse s

/-- The total free count, 512 − Σn. -/
def totalFree (s : State) : Nat := Config.poolSlots - sumLanes occupancy s

/-- The headroom of a lane section, given F (R120). -/
def headroomOf (L : Lane) (free : Nat) : Nat :=
  min (L.cfg.cap - occupancy L) ((L.cfg.reserve - occupancy L) + free)

/-- The headroom h of a lane (R120). -/
def headroom (s : State) (l : LaneId) : Nat := headroomOf (s.lane l) (freeShared s)

/-! ### Store-high, the recompute and growth (R129 to R132) -/

/-- The store-high state that a recompute gives a lane (R129). -/
def judgeHigh (h margin hysteresis : Nat) (was : Bool) : Bool :=
  if h < margin then true else if margin + hysteresis ≤ h then false else was

/-- One lane's part of a recompute: store-high judged, HIGH raised on its passage from off to on (R129),
and growth reported to the Code Filter if the headroom is above what it was before the event (R132). -/
def recomputeLane (before after : Nat) (L : Lane) : Lane :=
  let high := judgeHigh after L.cfg.margin L.cfg.hysteresis L.storeHigh
  let L' := if high && !L.storeHigh then raiseLane flagHigh L else L
  { L' with storeHigh := high, growth := L.growth || decide (before < after) }

/-- The recompute of F, every headroom and every store-high state (R130); `old` is the state before the event
that called for it. -/
def recompute (old s : State) : State :=
  s.mapLanes fun l L => recomputeLane (headroom old l) (headroom s l) L

/-! ### Admission, offers and losses (R122 to R126) -/

/-- A record with its lost_before joins the tail of the lane queue, and the pending-loss count becomes 0 (R122). -/
def joinQueue (r : Rec) (L : Lane) : Lane :=
  { L with queue := L.queue ++ [{ r with lostBefore := L.lost }], lost := 0 }

/-- The admission of a record whose slots are within the headroom (R122, R126). -/
def admitRecord (l : LaneId) (r : Rec) (s : State) : State := recompute s (s.modLane l (joinQueue r))

/-- A lane section counting a loss: pending-loss count, records_lost and LOSS (R123). -/
def loseLane (L : Lane) : Lane :=
  raiseLane flagLoss (countLane .recordsLost { L with lost := min (L.lost + 1) 255 })

/-- A lost offer or a loss notice (R123, R124). -/
def lose (l : LaneId) (s : State) : State := s.modLane l loseLane

/-- Whether a record fits the headroom of a lane (R121). -/
def fits (s : State) (l : LaneId) (b : RecBody) : Bool := decide (recordSlots b ≤ headroom s l)

/-- A record offered once, stamped with the Device Clock: admitted if it fits, lost if not (R122, R123, R127). -/
def offer (l : LaneId) (body : RecBody) (flags : RecFlags) (s : State) : State :=
  if fits s l body then admitRecord l { body := body, flags := flags, stamp := s.clock } s else lose l s

/-! ### The transmit queue (R75, R76) -/

/-- A byte as it goes on the line: its low seven bits on a port of 7 data bits (R76). -/
def lineValue (cfg : PortConfig) (b : Byte) : Byte := if cfg.sevenBits then b &&& 0x7F else b

/-- The transmitter begins the oldest queued byte when none is in transmission (R76). -/
def beginNext (P : Port) : Port :=
  match P.tx, P.txq with
  | none, b :: rest =>
      { P with
        txq := rest
        tx := some { value := lineValue P.cfg b.value, last := b.last, rate := P.cfg.rate,
                     sevenBits := P.cfg.sevenBits, parity := P.cfg.parity } }
  | _, _ => P

/-- The free space of the transmit queue (R76). -/
def txFree (P : Port) : Nat := Config.txQueueBytes - P.txq.length

/-- A tone byte: it joins the tail if it is configured and the queue has room, and is dropped otherwise (R75, R113). -/
def tonePort (tone : OptByte) (P : Port) : Port :=
  if tone.present && decide (P.txq.length < Config.txQueueBytes) then
    beginNext { P with txq := P.txq ++ [{ value := tone.value }] }
  else P

/-- Removing the mark of an expecting command's last byte, from the queue and from the byte in transmission (R83). -/
def unmark (P : Port) : Port :=
  { P with txq := P.txq.map fun b => { b with last := false }, tx := P.tx.map fun t => { t with last := false } }

/-! ### The outputs, judged once at the end of an event (R73, R169) -/

/-- The HOLD output of a port: asserted while one of the five conditions holds (R73). -/
def holdLevel (L : Lane) (P : Port) : Bool :=
  decide (L.run ≠ .running) || !P.cfg.enabled || P.slot.isSome || L.storeHigh || !scanAllowed L

/-- A lane's two HOLD outputs re-evaluated (R74). -/
def settleLane (L : Lane) : Lane :=
  { L with portA := { L.portA with hold := holdLevel L L.portA },
           portB := { L.portB with hold := holdLevel L L.portB } }

/-- The level of a port's HOLD pin, by its polarity (R73). -/
def holdPin (P : Port) : Bool := P.hold != P.cfg.holdActiveLow

/-- The end of an event: every HOLD output and ATTN re-evaluated (R74, R169; log entry 13). -/
def settle (s : State) : State :=
  let s' := s.mapLanes fun _ L => settleLane L
  { s' with attn := attnLevel s' }

end Sys2Proof.Machine
end

