-- ==== Sys2Proof/Machine/Operands.lean ====
section
/-! DEFINITION. The judging of request bodies (R182, R188, Tables 11-2, 11-4 to 11-7): results, lane and port
fields, off/on fields, bit sets and counted lengths. -/

namespace Sys2Proof.Machine

/-- The results of requests (Table 1-2). -/
inductive Result where
  | ok
  | clamped
  | badLane
  | badLength
  | badValue
  | unknownKind
  | state
  | busy
  | locked
  | inhibited
  | alreadyOpen
  | notEmpty
  | noRoom
  deriving DecidableEq, Repr

/-- The byte of a result (Table 11-2). -/
def resultByte : Result → Byte
  | .ok => 0x00
  | .clamped => 0x01
  | .badLane => 0x02
  | .badLength => 0x03
  | .badValue => 0x04
  | .unknownKind => 0x05
  | .state => 0x06
  | .busy => 0x07
  | .locked => 0x08
  | .inhibited => 0x09
  | .alreadyOpen => 0x0A
  | .notEmpty => 0x0B
  | .noRoom => 0x0C

/-- Serving a request: the state after it and the body of its reply (R182, R183). -/
abbrev Request := List Byte → State → State × List Byte

/-- A refused request changes nothing, and its reply holds the result alone (R182, R183). -/
def refuse (r : Result) (s : State) : State × List Byte := (s, [resultByte r])

/-- An accepted request with the result alone in its reply (11.4). -/
def accept (r : Result) (s : State) : State × List Byte := (s, [resultByte r])

/-- OK or CLAMPED, by whether a setting was brought into range (R182). -/
def okOrClamped (changed : Bool) : Result := if changed then .clamped else .ok

/-- The judging of a lane field and a fixed body length, for the requests that take lanes 0 to 3: BAD_LANE first,
then BAD_LENGTH; a body too short to hold the lane is BAD_LENGTH (R188). -/
def withLane (length : Nat) (serve : LaneId → Request) : Request := fun body s =>
  match body with
  | [] => refuse .badLength s
  | lane :: _ =>
    if h : lane.toNat < 4 then
      if body.length = length then serve ⟨lane.toNat, h⟩ body s else refuse .badLength s
    else refuse .badLane s

/-- The scope a request names: a lane, or the device. -/
inductive Scope where
  | lane (l : LaneId)
  | device
  deriving DecidableEq, Repr

/-- The judging of a lane field that may name the device, 0 to 3 or 255 (R164, R166, R168, R188). -/
def withScope (length : Nat) (serve : Scope → Request) : Request := fun body s =>
  match body with
  | [] => refuse .badLength s
  | lane :: _ =>
    if h : lane.toNat < 4 then
      if body.length = length then serve (.lane ⟨lane.toNat, h⟩) body s else refuse .badLength s
    else if lane = 0xFF then
      if body.length = length then serve .device body s else refuse .badLength s
    else refuse .badLane s

/-- The judging of a fixed body length, for the requests that name no lane. -/
def withLength (length : Nat) (serve : Request) : Request := fun body s =>
  if body.length = length then serve body s else refuse .badLength s

/-- Whether a one-byte off/on field holds a defined value (R188). -/
def offOn (body : List Byte) (i : Nat) : Bool := decide (u8 body i ≤ 1)

/-- Whether an off/on field is on. -/
def isOn (body : List Byte) (i : Nat) : Bool := decide (u8 body i = 1)

/-- Whether a bit-set field has no bit set above its n defined bits (Table 11-5). -/
def bitsBelow (n value : Nat) : Bool := decide (value < 2 ^ n)

/-- The port of a port field, if it is A or B (Table 11-4). -/
def portOf (body : List Byte) (i : Nat) : Option PortId :=
  if u8 body i = 0 then some .A else if u8 body i = 1 then some .B else none

/-- The keymap class of a class field (Table 11-4). -/
def classOf (n : Nat) : Option KeyClass :=
  match n with
  | 0 => some .ignore
  | 1 => some .normal
  | 2 => some .shift
  | 3 => some .lockContact
  | 4 => some .drawer
  | 5 => some .clearRecent
  | _ => none

/-- The check rule of a check rule field (Table 11-4). -/
def ruleOf (n : Nat) : Option CheckRule :=
  match n with
  | 0 => some .none
  | 1 => some .mod10w31
  | 2 => some .mod10w13
  | _ => none

/-- The parity of a parity field (Table 11-4). -/
def parityOf (n : Nat) : Option Parity :=
  match n with
  | 0 => some .none
  | 1 => some .even
  | 2 => some .odd
  | _ => none

end Sys2Proof.Machine
end

