-- ==== Sys2Proof/Machine/CodeFilter.lean ====
section
/-! DEFINITION. Code Screening (chapter 6): the head, the screening steps, the recent-code table, attempts, and
the requests FILTER_CONFIG, SYMBOLOGY_WRITE and FORGET with the event GROWTH_REPORT. -/

namespace Sys2Proof.Machine

/-- The port whose slot holds the head: earlier completion time first, port A first on equal times (R95). -/
def headPort (L : Lane) : Option PortId :=
  match L.portA.slot, L.portB.slot with
  | none, none => none
  | some _, none => some .A
  | none, some _ => some .B
  | some a, some b => if a.time.toNat ≤ b.time.toNat then some .A else some .B

/-- What the screening steps decide of a record (Table 6-1). -/
inductive Verdict where
  | accept (index : Nat)
  | reject (reason : RejectReason) (index : Nat)
  | suppress (cross : Bool)
  deriving DecidableEq, Repr

/-- The symbology index carried by a record that matched no entry, or was not classified (R99 to R101). -/
def noIndex : Nat := 15

/-- The symbology index of a code: the lowest index whose entry is present with the code's first byte as its mark (R92). -/
def symbologyIndex (table : Vector SymEntry 8) (code : List Byte) : Option (Fin 8) :=
  [0, 1, 2, 3, 4, 5, 6, 7].find? fun i : Fin 8 => table[i].present && decide (code.head? = some table[i].mark)

/-- Whether a byte is an ASCII digit, 30h to 39h (R102). -/
def isDigit (b : Byte) : Bool := decide (0x30 ≤ b.toNat) && decide (b.toNat ≤ 0x39)

/-- The digit value of a data byte (R103). -/
def digitOf (b : Byte) : Nat := b.toNat - 0x30

/-- The weighted sum of digits listed from the right: the first weighs `odd`, the second `even`, and so on (R103). -/
def weightedSum (odd even : Nat) : List Nat → Nat
  | [] => 0
  | d :: ds => odd * d + weightedSum even odd ds

/-- The expected check of a weighted sum (R103). -/
def expectedCheck (sum : Nat) : Nat := (10 - sum % 10) % 10

/-- Whether data digits end in their check digit, with the weights of odd and even numbers from the right (R103). -/
def checkPasses (odd even : Nat) (data : List Byte) : Bool :=
  match data.reverse with
  | [] => false
  | c :: rest => decide (digitOf c = expectedCheck (weightedSum odd even (rest.map digitOf)))

/-- The judgements of step 4 on a matched record, in order (R102). -/
def judgeMatched (e : SymEntry) (code : List Byte) : Option RejectReason :=
  let data := code.drop 1
  if data.length < e.minLen || e.maxLen < data.length then some .length
  else
    match e.rule with
    | .none => none
    | .mod10w31 =>
      if !data.all isDigit then some .notNumeric
      else if data.length < 2 then some .length
      else if checkPasses 3 1 data then none else some .check
    | .mod10w13 =>
      if !data.all isDigit then some .notNumeric
      else if data.length < 2 then some .length
      else if checkPasses 1 3 data then none else some .check

/-- The recent-code table's entry for a code (R104). -/
def recentFind (table : List RecentEntry) (code : List Byte) : Option RecentEntry :=
  table.find? fun e => decide (e.code = code)

/-- Whether a record read at a time lies within a window of an entry: not earlier than it, and less than the window
after it (R104, R110). -/
def withinWindow (entry now : Clock) (window : Nat) : Bool :=
  decide (entry.toNat ≤ now.toNat) && decide (now.toNat - entry.toNat < window)

/-- Step 5: a valid record is suppressed as a duplicate, or accepted with its index (R104). -/
def judgeDuplicate (s : State) (L : Lane) (p : PortId) (r : SlotRecord) (index : Nat) : Verdict :=
  match recentFind L.recent r.code with
  | none => .accept index
  | some e =>
    if e.port = p then
      if withinWindow e.time r.time s.sameWindow then .suppress false else .accept index
    else if withinWindow e.time r.time s.crossWindow then .suppress true else .accept index

/-- Steps 1 to 5 of the screening of a record of port p (R99 to R104). -/
def screen (s : State) (L : Lane) (p : PortId) (r : SlotRecord) : Verdict :=
  if !scanAllowed L then .reject .locked noIndex
  else if r.damaged then .reject .lineError noIndex
  else
    match symbologyIndex s.symbology r.code with
    | none => if s.strict then .reject .unlisted noIndex else judgeDuplicate s L p r noIndex
    | some i =>
      match judgeMatched s.symbology[i] r.code with
      | some reason => .reject reason i.val
      | none => judgeDuplicate s L p r i.val

/-- The table after an accepted record: its entry at the front, the matching entry or the back one of nine gone (R105). -/
def recentAccept (p : PortId) (r : SlotRecord) (table : List RecentEntry) : List RecentEntry :=
  ({ code := r.code, port := p, time := r.time } :: table.filter fun e => decide (e.code ≠ r.code)).take Config.recentEntries

/-- The table after a suppressed record: its entry at the front with the record's time and its own port (R107). -/
def recentSuppress (r : SlotRecord) (table : List RecentEntry) : List RecentEntry :=
  match recentFind table r.code with
  | none => table
  | some e => { e with time := r.time } :: table.filter fun e' => decide (e'.code ≠ r.code)

/-- The SCAN record of an accepted record (R105). -/
def scanRecord (p : PortId) (r : SlotRecord) (index : Nat) (delayed : Bool) : Rec :=
  { body := .scan p index r.code, flags := { delayed := delayed }, stamp := r.time }

/-- The SCAN_REJECT record of a rejected record (R106). -/
def rejectRecord (p : PortId) (r : SlotRecord) (reason : RejectReason) (index : Nat) (delayed : Bool) : Rec :=
  { body := .scanReject p index reason r.code.length, flags := { delayed := delayed, damaged := r.damaged },
    stamp := r.time }

/-- What the Code Filter does to the lane when an accepted record has been admitted (R105). -/
def acceptLane (p : PortId) (r : SlotRecord) (L : Lane) : Lane :=
  let L1 := { L with recent := recentAccept p r L.recent }
  let L2 := L1.modPort p fun P => tonePort P.cfg.goodTone P
  (countLane .scansAccepted L2).modPort p fun P => { P with slot := none }

/-- What the Code Filter does to the lane when a rejection has been admitted (R106). -/
def rejectLane (p : PortId) (L : Lane) : Lane :=
  let L1 := L.modPort p fun P => tonePort P.cfg.badTone P
  (countLane .scansRejected L1).modPort p fun P => { P with slot := none }

/-- What the Code Filter does to the lane when a record is suppressed (R107). -/
def suppressLane (p : PortId) (r : SlotRecord) (cross : Bool) (L : Lane) : Lane :=
  let L1 := { L with recent := recentSuppress r L.recent }
  (countLane (if cross then .dupCrossPort else .dupSamePort) L1).modPort p fun P => { P with slot := none }

/-- An attempt on the record of port p, the head: the state after it, and whether the record finished (R97).
An admission that does not fit leaves everything as it is (R126). -/
def attemptRecord (l : LaneId) (p : PortId) (r : SlotRecord) (delayed : Bool) (s : State) : State × Bool :=
  match screen s (s.lane l) p r with
  | .suppress cross => (s.modLane l (suppressLane p r cross), true)
  | .accept index =>
    if fits s l (.scan p index r.code) then
      ((admitRecord l (scanRecord p r index delayed) s).modLane l (acceptLane p r), true)
    else (s, false)
  | .reject reason index =>
    if fits s l (.scanReject p index reason r.code.length) then
      ((admitRecord l (rejectRecord p r reason index delayed) s).modLane l (rejectLane p), true)
    else (s, false)

/-- The head of a lane: its port and its record (R95). -/
def headOf (L : Lane) : Option (PortId × SlotRecord) :=
  (headPort L).bind fun p => (L.port p).slot.map fun r => (p, r)

/-- An attempt on the head of a lane, if it has one. A READY lane makes none (R96). -/
def attempt (l : LaneId) (delayed : Bool) (s : State) : State × Bool :=
  if (s.lane l).run ≠ .running then (s, false)
  else
    match headOf (s.lane l) with
    | none => (s, false)
    | some (p, r) => attemptRecord l p r delayed s

/-- An attempt and, when the head finishes, the attempt on the other slot's record in the same event; the second is
never the attempt at which its record entered its slot (R97). -/
def attemptChain (l : LaneId) (delayed : Bool) (s : State) : State :=
  if (attempt l delayed s).2 then (attempt l true (attempt l delayed s).1).1 else (attempt l delayed s).1

/-- Emptying the recent-code table of a lane, and the attempt on its head (R46, R111, R112). -/
def clearRecent (l : LaneId) (s : State) : State :=
  attemptChain l true (s.modLane l fun L => { L with recent := [] })

/-- FORGET, judged (R112). -/
def serveForget : Request := withLane 1 fun l _ s => accept .ok (clearRecent l s)

/-- FILTER_CONFIG, judged (R94). -/
def serveFilterConfig : Request := withLength 5 fun body s =>
  if !offOn body 0 then refuse .badValue s
  else
    let same := clamp 0 5000 (u16 body 1)
    let cross := clamp 0 5000 (u16 body 3)
    accept (okOrClamped (decide (same ≠ u16 body 1) || decide (cross ≠ u16 body 3)))
      { s with strict := isOn body 0, sameWindow := same, crossWindow := cross }

/-- Entry j of a SYMBOLOGY_WRITE body, if its values are defined: the entry as stored, and whether it was
clamped (R93). An entry written as empty is not judged, and is stored with the minimum, maximum and rule of R92; the spec gives
it no mark byte, and the model stores 0 (log entry 22). Whether its other bytes, where they differ from what is stored, are a field
changed for CLAMPED, R93 does not say: DESIGN CHOICE, it never counts as clamped (log entry 32). -/
def symEntryOf (body : List Byte) (j : Nat) : Option (SymEntry × Bool) :=
  let at_ := 2 + 5 * j
  if u8 body at_ = 0 then some ({}, false)
  else if u8 body at_ ≠ 1 then none
  else
    match ruleOf (u8 body (at_ + 4)) with
    | none => none
    | some rule =>
      let lo := clamp 1 47 (u8 body (at_ + 2))
      let hi := clamp 1 47 (u8 body (at_ + 3))
      let entry : SymEntry :=
        { present := true, mark := body.getD (at_ + 1) 0, minLen := min lo hi, maxLen := hi, rule := rule }
      some (entry, decide (entry.minLen ≠ u8 body (at_ + 2)) || decide (hi ≠ u8 body (at_ + 3)))

/-- The Symbology Table with a list of entries written from an index upward (R93). -/
def writeSymbology (table : Vector SymEntry 8) (first : Nat) : List SymEntry → Vector SymEntry 8
  | [] => table
  | e :: es => writeSymbology (table.setIfInBounds first e) (first + 1) es

/-- SYMBOLOGY_WRITE, judged (R93): BAD_LENGTH, then BAD_VALUE. -/
def serveSymbologyWrite : Request := fun body s =>
  let n := u8 body 1
  if body.length < 2 || n = 0 || 8 < n || decide (body.length ≠ 2 + 5 * n) then refuse .badLength s
  else if 8 < u8 body 0 + n then refuse .badValue s
  else
    match (List.range n).mapM (symEntryOf body) with
    | none => refuse .badValue s
    | some entries =>
      accept (okOrClamped (entries.any Prod.snd))
        { s with symbology := writeSymbology s.symbology (u8 body 0) (entries.map Prod.fst) }

/-- The attempt of a reported growth, taken as an event of its own (R98, R132). -/
def takeGrowth (l : LaneId) (s : State) : State :=
  if (s.lane l).growth then attemptChain l true (s.modLane l fun L => { L with growth := false }) else s

end Sys2Proof.Machine
end

