-- ==== Sys2Proof/Machine/Drawer.lean ====
section
/-! DEFINITION. Cash Drawer Control (chapter 8): the sensor, kicks, supervision, the inhibit input, and the
requests DRAWER_CONFIG and KICK. -/

namespace Sys2Proof.Machine

/-- Changes the Drawer Controller of a lane. -/
def State.modDrawer (s : State) (l : LaneId) (f : Drawer → Drawer) : State :=
  s.modLane l fun L => { L with drawer := f L.drawer }

/-- The raw reading of DSENSE: true when open (R145). -/
def rawOpen (D : Drawer) : Bool := D.dsense == D.openHigh

/-- The debounced reading that the drawer state gives outside SETTLING: true when open (R145). -/
def debouncedOpen (D : Drawer) : Bool :=
  match D.st with
  | .opened | .overdue => true
  | .settling | .shut | .kickPulse | .kickWait => false

/-- A change of the raw reading of a watched sensor at a moment: in SETTLING it restarts the measurement; outside
it a reading that differs from the debounced one begins it, and one that agrees ends it (R145, R146). -/
def rawChanged (now : Nat) (D : Drawer) : Drawer :=
  if D.st = .settling then { D with measure := some now }
  else if rawOpen D != debouncedOpen D then { D with measure := some now }
  else { D with measure := none }

/-- Whether the stability measurement in progress has reached the sensor debounce time (R145). -/
def debounceDue (now : Nat) (D : Drawer) : Bool := timerDue now (D.measure.map (· + D.debounce))

/-- Entry to SHUT: the timers stop, no tries are used, and the staged set becomes the active set (R143). -/
def enterShut (D : Drawer) : Drawer :=
  { D with st := .shut, tries := 0, kick := false, pulse := none, retry := none, openTimer := .stopped,
           active := D.staged }

/-- Entry to OPEN at a moment: the open mark is set and the open timer starts from 0, held at once when the lock
position pauses the alarm (R146, R151, R152, R153). -/
def enterOpen (now : Nat) (paused : Bool) (D : Drawer) : Drawer :=
  { D with st := .opened, tries := 0, kick := false, pulse := none, retry := none, openMark := now,
           openTimer := if paused then .held 0 else .running 0 now }

/-- SETTLING with everything stopped, the staged set active: the drawer of a lane that stops (R158). -/
def enterSettling (D : Drawer) : Drawer :=
  { D with st := .settling, tries := 0, kick := false, pulse := none, retry := none, openTimer := .stopped,
           measure := none, active := D.staged }

/-- The start of a pulse at a moment, with the tries used that it brings: the output on, both timers from this moment
(R147, R150). -/
def beginPulse (now tries : Nat) (D : Drawer) : Drawer :=
  { D with st := .kickPulse, tries := tries, kick := true, pulse := some (now + D.active.width),
           retry := some (now + D.active.retryPeriod) }

/-- The end of the stability measurement, when its debounced change is taken (R145). -/
def endMeasure (D : Drawer) : Drawer := { D with measure := none }

/-- SETTLING ends with the sensor open (R146). -/
def openAtStart (l : LaneId) (s : State) : State :=
  let s1 := offer l (.drawerOpen .atStart 0) {} s
  s1.modLane l fun L => { L with drawer := enterOpen s.elapsed (alarmPaused L) L.drawer }

/-- A debounced opening during a kick (R151). -/
def openCommanded (l : LaneId) (s : State) : State :=
  let s1 := offer l (.drawerOpen .commanded (s.lane l).drawer.tries) {} s
  (count l .drawerOpens s1).modLane l fun L => { L with drawer := enterOpen s.elapsed (alarmPaused L) L.drawer }

/-- A debounced opening in SHUT (R152). -/
def openUncommanded (l : LaneId) (s : State) : State :=
  let s1 := offer l (.drawerOpen .uncommanded 0) {} s
  let s2 := raise l flagDrawer (count l .uncommandedOpens (count l .drawerOpens s1))
  s2.modLane l fun L => { L with drawer := enterOpen s.elapsed (alarmPaused L) L.drawer }

/-- The open duration, saturating at 32 bits (R155). -/
def openDuration (now mark : Nat) : Nat := min (now - mark) 4294967295

/-- A debounced closing (R155). -/
def closeDrawer (l : LaneId) (s : State) : State :=
  let s1 := offer l (.drawerClosed (openDuration s.elapsed (s.lane l).drawer.openMark)) {} s
  s1.modDrawer l enterShut

/-- A debounced change taken: its measurement ends, and the drawer moves by its state and its raw reading
(R145, R146, R151, R152, R155). -/
def debounced (l : LaneId) (s : State) : State :=
  let s1 := s.modDrawer l endMeasure
  let D := (s.lane l).drawer
  match D.st, rawOpen D with
  | .settling, false => s1.modDrawer l enterShut
  | .settling, true => openAtStart l s1
  | .shut, true => openUncommanded l s1
  | .kickPulse, true | .kickWait, true => openCommanded l s1
  | .opened, false | .overdue, false => closeDrawer l s1
  | .shut, false | .kickPulse, false | .kickWait, false | .opened, true | .overdue, true => s1

/-- Whether a lane's debounced change can be taken now (R145). -/
def debouncedChangeDue (s : State) (l : LaneId) : Bool :=
  decide ((s.lane l).run = .running) && debounceDue s.elapsed (s.lane l).drawer

/-- A debounced change, when its time has been reached (R145). -/
def takeDebounced (l : LaneId) (s : State) : State := if debouncedChangeDue s l then debounced l s else s

/-- A level of the DSENSE pin: a change of the raw reading of a running lane restarts the measurement (R145). -/
def senseLevel (l : LaneId) (high : Bool) (s : State) : State :=
  s.modLane l fun L =>
    if L.drawer.dsense = high then L
    else
      let D := { L.drawer with dsense := high }
      { L with drawer := if L.run = .running then rawChanged s.elapsed D else D }

/-- Whether the pulse timer expires now (R149). -/
def pulseDue (s : State) (l : LaneId) : Bool :=
  decide ((s.lane l).drawer.st = .kickPulse) && timerDue s.elapsed (s.lane l).drawer.pulse

/-- The pulse timer's expiry: output off, KICK_WAIT (R149). -/
def pulseExpires (l : LaneId) (s : State) : State :=
  if pulseDue s l then s.modDrawer l fun D => { D with st := .kickWait, kick := false, pulse := none } else s

/-- Whether the retry timer expires now (R150). -/
def retryDue (s : State) (l : LaneId) : Bool :=
  decide ((s.lane l).drawer.st = .kickWait) && timerDue s.elapsed (s.lane l).drawer.retry

/-- The retry timer's expiry: a further pulse, or the failure of the kick (R150). -/
def retryExpires (l : LaneId) (s : State) : State :=
  let D := (s.lane l).drawer
  if !retryDue s l then s
  else if D.tries < D.active.maxTries then s.modDrawer l (beginPulse s.elapsed (D.tries + 1))
  else
    let s1 := s.modDrawer l enterShut
    let s2 := offer l (.drawerFail D.active.maxTries) {} s1
    let s3 := offerFault l .kickNoOpen .drawer D.active.maxTries s2
    raise l flagDrawer (count l .kickFailures s3)

/-- The count of the open timer at a moment (R153). -/
def openCount (now : Nat) : OpenTimer → Nat
  | .stopped => 0
  | .running count since => count + (now - since)
  | .held count => count

/-- Whether an open timer is running, not held or stopped (R153). -/
def openRuns : OpenTimer → Bool
  | .running _ _ => true
  | .stopped | .held _ => false

/-- A new lock position given to the Drawer Controller: it holds or resumes the open timer of an OPEN drawer (R153). -/
def pauseOpen (now : Nat) (paused : Bool) (D : Drawer) : Drawer :=
  match D.st, D.openTimer, paused with
  | .opened, .running count since, true => { D with openTimer := .held (openCount now (.running count since)) }
  | .opened, .held count, false => { D with openTimer := .running count now }
  | _, _, _ => D

/-- Whether the open timer reaches the active alarm time now (R154). -/
def openDue (s : State) (l : LaneId) : Bool :=
  let D := (s.lane l).drawer
  decide (D.st = .opened) && openRuns D.openTimer && decide (D.active.alarm ≠ 0) &&
    decide (D.active.alarm * 1000 ≤ openCount s.elapsed D.openTimer)

/-- The drawer becomes overdue (R154). -/
def openExpires (l : LaneId) (s : State) : State :=
  if openDue s l then
    let s1 := offer l (.drawerOverdue (s.lane l).drawer.active.alarm) {} s
    (raise l flagDrawer s1).modDrawer l fun D => { D with st := .overdue, openTimer := .stopped }
  else s

/-- Whether a drawer is in KICK_PULSE or KICK_WAIT. -/
def kicking (D : Drawer) : Bool := decide (D.st = .kickPulse) || decide (D.st = .kickWait)

/-- INH_N's assertion at one Drawer Controller: a kick of a running lane is aborted (R156). -/
def abortKick (l : LaneId) (s : State) : State :=
  let L := s.lane l
  if L.run = .running ∧ kicking L.drawer then
    let s1 := s.modDrawer l fun D => { D with kick := false, pulse := none, retry := none }
    let s2 := offer l (.drawerAbort .inhibit L.drawer.tries) {} s1
    (raise l flagDrawer s2).modDrawer l enterShut
  else s

/-- An assertion of INH_N: the INHIBIT flag is set, and every Drawer Controller takes it, in the order given and then
in number order (R156, R161; log entry 14). -/
def assertInhibit (order : List LaneId) (s : State) : State :=
  if s.inhibit then s
  else (order ++ [0, 1, 2, 3]).foldl (fun t l => abortKick l t) { s with inhibit := true }

/-- The conditions of Table 8-2 in their order; `none` when a kick begins. -/
def kickRefusal (s : State) (l : LaneId) : Option Result :=
  let L := s.lane l
  if L.run ≠ .running then some .state
  else if s.inhibit then some .inhibited
  else if !kickAllowed L then some .locked
  else
    match L.drawer.st with
    | .kickPulse | .kickWait => some .busy
    | .opened | .overdue => some .alreadyOpen
    | .settling => some .busy
    | .shut => none

/-- A kick begins, its tries used 1 (R147). -/
def beginKick (l : LaneId) (s : State) : State := s.modDrawer l (beginPulse s.elapsed 1)

/-- KICK, judged (R147). -/
def serveKick : Request := withLane 1 fun l _ s =>
  match kickRefusal s l with
  | some r => refuse r s
  | none => accept .ok (beginKick l s)

/-- A local kick request: judged by the same conditions, and dropped without a trace where they refuse it (R148). -/
def localKick (l : LaneId) (s : State) : State :=
  match kickRefusal s l with
  | some _ => s
  | none => beginKick l s

/-- The timing fields of a DRAWER_CONFIG body as given (Table 11-6). -/
def timingGiven (body : List Byte) : Timing :=
  { width := u8 body 1, retryPeriod := u16 body 2, maxTries := u8 body 4, alarm := u16 body 5 }

/-- The open alarm time clamped: 0 is off, else 5 to 600 (R142). -/
def clampAlarm (n : Nat) : Nat := if n = 0 then 0 else clamp 5 600 n

/-- The timing fields clamped, and the retry period raised above the kick width (R142). -/
def clampTiming (t : Timing) : Timing :=
  let width := clamp 20 250 t.width
  let period := clamp 100 2000 t.retryPeriod
  { width := width
    retryPeriod := if period ≤ width then clamp 100 2000 (width + 20) else period
    maxTries := clamp 1 4 t.maxTries
    alarm := clampAlarm t.alarm }

/-- Whether a DRAWER_CONFIG reaches the active set at once (R143). -/
def timingAtOnce (L : Lane) : Bool :=
  decide (L.run = .ready) || decide (L.drawer.st = .settling) || decide (L.drawer.st = .shut)

/-- The drawer settings of an accepted DRAWER_CONFIG written at a moment: the timing fields staged or active, and the
sensor fields in effect, a new polarity of a running lane counting as a raw change (R143, R144, R145). -/
def writeDrawer (now : Nat) (t : Timing) (openHigh : Bool) (debounce : Nat) (localOn : Bool) (L : Lane) : Lane :=
  let D := { L.drawer with staged := t, active := if timingAtOnce L then t else L.drawer.active,
                           openHigh := openHigh, debounce := debounce, localKick := localOn }
  { L with drawer := if L.run = .running ∧ L.drawer.openHigh ≠ openHigh then rawChanged now D else D }

/-- DRAWER_CONFIG, judged (R142). A debounced change that the new debounce time finds due is taken at once (R145). -/
def serveDrawerConfig : Request := withLane 10 fun l body s =>
  if !offOn body 7 || !offOn body 9 then refuse .badValue s
  else
    let given := timingGiven body
    let t := clampTiming given
    let debounce := clamp 5 100 (u8 body 8)
    let s1 := s.modLane l (writeDrawer s.elapsed t (!isOn body 7) debounce (isOn body 9))
    accept (okOrClamped (decide (t ≠ given) || decide (debounce ≠ u8 body 8))) (takeDebounced l s1)

end Sys2Proof.Machine
end

