-- ==== Sys2Proof/Machine/Keymap.lean ====
section
/-! DEFINITION. The Keymap Unit (chapter 3): the keymap and its requests, presses, releases and the shift layer,
typematic repeat, the mode lock and its end-of-pass notice. -/

namespace Sys2Proof.Machine

/-- The keymap entry of a position. -/
def keymapAt (L : Lane) (p : Nat) : KeymapEntry := L.keymap[p]?.getD {}

/-- The key classes: a press makes a KEY_DOWN (R39). -/
def isKeyClass : KeyClass → Bool
  | .normal | .shift | .drawer | .clearRecent => true
  | .ignore | .lockContact => false

/-- The rollover count: the key-class entries of the held-key list, which are the counted keys (R30, R43). -/
def rolloverCount (L : Lane) : Nat := (L.held.filter fun h => isKeyClass h.cls).length

/-- Whether the keymap holds any LOCK_CONTACT entry (R51). -/
def hasLockContact (L : Lane) : Bool := L.keymap.toList.any fun e => decide (e.cls = .lockContact)

/-- The lock position computed from the held-key list (R51). -/
def computeLock (L : Lane) : LockPos :=
  if !hasLockContact L then .noLock
  else
    match L.held.filter fun h => decide (h.cls = .lockContact) with
    | [h] => .index h.code.toNat
    | _ => .inTransit

/-- The layer a press takes: 1 while a SHIFT key is in the held-key list (R44). -/
def layerOf (L : Lane) : Bool := L.held.any fun h => decide (h.cls = .shift)

/-- The held-key entry of a key-class press (R44). -/
def keyEntry (now : Nat) (L : Lane) (p : Nat) : HeldKey :=
  let e := keymapAt L p
  { pos := p, cls := e.cls, code := if layerOf L then e.shifted else e.base, layer := layerOf L,
    repeats := e.repeats, mark := now }

/-- The repeating key after a key-class press (R48). -/
def repeatAtPress (L : Lane) (h : HeldKey) : Option Repeating :=
  if h.cls = .normal ∧ h.repeats = true then
    some { pos := h.pos, number := 0, due := h.mark + 10 * L.cfg.typeDelay }
  else none

/-- The class action of a press (R45, R46, step 6 of R44). -/
def classAction (l : LaneId) (cls : KeyClass) (s : State) : State :=
  match cls with
  | .drawer => if (s.lane l).drawer.localKick then localKick l s else s
  | .clearRecent => clearRecent l s
  | .ignore | .normal | .shift | .lockContact => s

/-- A press of a key class handed over (R44). -/
def pressKey (l : LaneId) (p : Nat) (s : State) : State :=
  let L := s.lane l
  let h := keyEntry s.elapsed L p
  let s1 := s.modLane l fun L => { L with held := L.held ++ [h] }
  let s2 := offer l (.keyDown p h.code h.cls) { layer := h.layer } s1
  let s3 := count l .keysAccepted s2
  let s4 := s3.modLane l fun L => { L with repeating := repeatAtPress L h }
  classAction l h.cls s4

/-- A press of a lock contact handed over: it joins the held-key list with its lock index, and makes no record (R39, R43). -/
def pressLock (l : LaneId) (p : Nat) (s : State) : State :=
  let e := keymapAt (s.lane l) p
  s.modLane l fun L =>
    { L with held := L.held ++ [{ pos := p, cls := e.cls, code := e.base, layer := false, repeats := false,
                                  mark := s.elapsed }] }

/-- A completed press handed to the Keymap Unit (R34, R39). -/
def press (l : LaneId) (p : Nat) (s : State) : State :=
  if isKeyClass (keymapAt (s.lane l) p).cls then pressKey l p s else pressLock l p s

/-- The held time of a release, saturating (R47). -/
def heldTime (now mark : Nat) : Nat := min (now - mark) 65535

/-- The held-key entry of a position (R43). -/
def heldFind (L : Lane) (p : Nat) : Option HeldKey := L.held.find? fun h => decide (h.pos = p)

/-- A released position leaves the held-key list, and ends the repeat that is its own (R47, R48). -/
def dropHeld (p : Nat) (L : Lane) : Lane :=
  { L with held := L.held.filter fun h => decide (h.pos ≠ p),
           repeating := L.repeating.filter fun r => decide (r.pos ≠ p) }

/-- A completed release handed to the Keymap Unit (R47). -/
def release (l : LaneId) (p : Nat) (s : State) : State :=
  match heldFind (s.lane l) p with
  | none => s
  | some h =>
    let s1 :=
      if isKeyClass h.cls then
        offer l (.keyUp p h.code (heldTime s.elapsed h.mark)) { layer := h.layer } s
      else s
    s1.modLane l (dropHeld p)

/-- A newly defined lock position: the LOCK record and flag when it differs from the last defined one (R52). -/
def defineLock (l : LaneId) (new : LockPos) (s : State) : State :=
  match new with
  | .index i =>
    if (s.lane l).lastLock = some i then s
    else
      let s1 := raise l flagLock (offer l (.lock i (s.lane l).lastLock) {} s)
      s1.modLane l fun L => { L with lastLock := some i }
  | .inTransit | .noLock => s

/-- The lock position of an end-of-pass notice, and what its change brings: the LOCK record, the Code Filter's
attempt, and the pause of the open timer (R51, R52, R54). HOLD follows at the end of the event. R34 speaks of a lock position
change that one transition brings before the next is handed over; the model follows R35 and R51, by which the lock position
changes at this notice alone (log entry 30). -/
def lockNotice (l : LaneId) (s : State) : State :=
  let new := computeLock (s.lane l)
  let s1 := defineLock l new (s.modLane l fun L => { L with lock := new })
  if new = (s.lane l).lock then s1
  else
    let s2 := attemptChain l true s1
    s2.modLane l fun L => { L with drawer := pauseOpen s.elapsed (alarmPaused L) L.drawer }

/-- A repeat that falls due: the repeat number and due mark advance, and KEY_REPEAT is offered, or withheld in the store-high
state `high` that its notice reads (R49, R50, R131). -/
def repeatFalls (l : LaneId) (high : Bool) (r : Repeating) (h : HeldKey) (s : State) : State :=
  let number := min (r.number + 1) 255
  let s1 := s.modLane l fun L =>
    { L with repeating := some { r with number := number, due := r.due + 10 * L.cfg.typeInterval } }
  if high then count l .repeatsWithheld s1
  else offer l (.keyRepeat r.pos h.code number) { layer := h.layer } s1

/-- The typematic work of an end-of-pass notice that reads the store-high state `high` (R49). -/
def repeatNotice (l : LaneId) (high : Bool) (s : State) : State :=
  match (s.lane l).repeating with
  | none => s
  | some r =>
    match heldFind (s.lane l) r.pos with
    | none => s
    | some h => if r.due ≤ s.elapsed then repeatFalls l high r h s else s

/-- The end-of-pass notice: the lock position, then typematic repeat (R35, R54). A repeat reads the store-high state left by the
last recompute before the notice, so the notice's own LOCK record and scans do not count (R50, R131). -/
def notice (l : LaneId) (s : State) : State := repeatNotice l (s.lane l).storeHigh (lockNotice l s)

/-- The Keymap Unit's state emptied, as START, STOP and RESET_LANE do before they set the lock position (R55). -/
def clearKeymapUnit (L : Lane) : Lane := { L with held := [], repeating := none }

/-- Entry j of a KEYMAP_WRITE body, if its values are defined (R40, Table 11-7). -/
def keymapEntryOf (body : List Byte) (j : Nat) : Option KeymapEntry :=
  let at_ := 3 + 6 * j
  match classOf (u8 body at_) with
  | none => none
  | some cls =>
    if 1 < u8 body (at_ + 5) then none
    else if cls = .lockContact ∧ 5 < u16 body (at_ + 1) then none
    else
      some { cls := cls, base := BitVec.ofNat 16 (u16 body (at_ + 1)), shifted := BitVec.ofNat 16 (u16 body (at_ + 3)),
             repeats := isOn body (at_ + 5) }

/-- A keymap with a list of entries written from a position upward (R40). -/
def writeKeymap (map : Vector KeymapEntry 128) (first : Nat) : List KeymapEntry → Vector KeymapEntry 128
  | [] => map
  | e :: es => writeKeymap (map.setIfInBounds first e) (first + 1) es

/-- Whether a write touches a LOCK_CONTACT entry, old or new (R40). -/
def touchesLock (L : Lane) (first : Nat) (entries : List KeymapEntry) : Bool :=
  (entries.any fun e => decide (e.cls = .lockContact)) ||
    (List.range entries.length).any fun j => decide ((keymapAt L (first + j)).cls = .lockContact)

/-- KEYMAP_WRITE, judged (R40): BAD_LANE, BAD_LENGTH, BAD_VALUE, STATE. -/
def serveKeymapWrite : Request := fun body s =>
  let n := u8 body 2
  if n = 0 ∨ 16 < n then
    match body with
    | lane :: _ => if lane.toNat < 4 then refuse .badLength s else refuse .badLane s
    | [] => refuse .badLength s
  else
    withLane (3 + 6 * n) (fun l body s =>
      if 128 < u8 body 1 + n then refuse .badValue s
      else
        match (List.range n).mapM (keymapEntryOf body) with
        | none => refuse .badValue s
        | some entries =>
          if (s.lane l).run = .running ∧ touchesLock (s.lane l) (u8 body 1) entries = true then refuse .state s
          else
            accept .ok (s.modLane l fun L => { L with keymap := writeKeymap L.keymap (u8 body 1) entries })) body s

/-- A keymap entry as KEYMAP_READ sends it (Table 11-10). -/
def entryBytes (e : KeymapEntry) : List Byte :=
  byteOf (classNum e.cls) :: le16 e.base.toNat ++ le16 e.shifted.toNat ++ [boolByte e.repeats]

/-- KEYMAP_READ, judged (R42). -/
def serveKeymapRead : Request := withLane 3 fun l body s =>
  let n := u8 body 2
  if n = 0 ∨ 16 < n ∨ 128 < u8 body 1 + n then refuse .badValue s
  else
    (s, resultByte .ok :: byteOf n :: (List.range n).flatMap fun j => entryBytes (keymapAt (s.lane l) (u8 body 1 + j)))

end Sys2Proof.Machine
end

