-- ==== Sys2Proof/Machine/KeyMatrix.lean ====
section
/-! DEFINITION. Key Matrix Sampling (chapter 2): the readings of a pass, ghost analysis, debounce, rollover and
the walk of the positions. -/

namespace Sys2Proof.Machine

/-- Whether a position lies inside the configured geometry (R17). -/
def inGeometry (cfg : LaneConfig) (p : Nat) : Bool := decide (p / 16 < cfg.rows) && decide (p % 16 < cfg.cols)

/-- Whether a position is in the raw closed set of a pass (R19, R17). -/
def rawClosed (cfg : LaneConfig) (closed : BitVec 128) (p : Nat) : Bool := inGeometry cfg p && closed.getLsbD p

/-- The position of a crossing (R17). -/
def crossing (r c : Nat) : Nat := r * 16 + c

/-- Whether two distinct rows and two distinct columns make a ghost rectangle: at least three of their crossings are in
the raw closed set (R21). -/
def ghostRectangle (cfg : LaneConfig) (closed : BitVec 128) (r1 r2 c1 c2 : Nat) : Bool :=
  decide (r1 ≠ r2) && decide (c1 ≠ c2) &&
    decide (3 ≤ (rawClosed cfg closed (crossing r1 c1)).toNat + (rawClosed cfg closed (crossing r1 c2)).toNat +
      (rawClosed cfg closed (crossing r2 c1)).toNat + (rawClosed cfg closed (crossing r2 c2)).toNat)

/-- Whether a position is a corner of some ghost rectangle of the pass (R21). -/
def ghostCorner (cfg : LaneConfig) (closed : BitVec 128) (p : Nat) : Bool :=
  inGeometry cfg p &&
    (List.range cfg.rows).any fun r => (List.range cfg.cols).any fun c =>
      ghostRectangle cfg closed (p / 16) r (p % 16) c

/-- The lowest ghost corner of a pass, if it has a ghost rectangle; none with diodes fitted (R20, R21, R23). -/
def lowestGhost (cfg : LaneConfig) (closed : BitVec 128) : Option Nat :=
  if cfg.diodes then none else (List.range 128).find? (ghostCorner cfg closed)

/-- Whether the state of a position lets a ghost corner mask it (Table 2-1). -/
def maskable : KeyState → Bool
  | .up | .pressPending _ _ => true
  | .down | .releasePending _ => false

/-- The effective reading of a position in a state (R20 step 3, R22). -/
def effectiveClosed (cfg : LaneConfig) (closed : BitVec 128) (p : Nat) (k : KeyState) : Bool :=
  rawClosed cfg closed p && !(!cfg.diodes && maskable k && ghostCorner cfg closed p)

/-- What a position's transition hands over: nothing, a press, a release, or a blocking episode begun. -/
inductive KeyEvent where
  | quiet
  | press
  | release
  | blocked
  deriving DecidableEq, Repr

/-- A press that would complete: a lock contact completes whatever the count, a key class when the count is below the
limit, and is otherwise held at D, a blocking episode beginning if it was not held before (R31, R32, R33). -/
def pressCompletes (cls : KeyClass) (d : Nat) (room wasHeld : Bool) : KeyState × KeyEvent :=
  if decide (cls = .lockContact) || room then (.down, .press)
  else (.pressPending d true, if wasHeld then .quiet else .blocked)

/-- The debounce transition of a position at a pass end, by its class in the keymap, its effective reading and whether the
rollover count is below the limit (Table 2-2, R24 to R29, R32). -/
def keyTransition (cls : KeyClass) (d u : Nat) (room closed : Bool) : KeyState → KeyState × KeyEvent
  | .up =>
    if decide (cls = .ignore) || !closed then (.up, .quiet)
    else if d ≤ 1 then pressCompletes cls d room false
    else (.pressPending 1 false, .quiet)
  | .pressPending k wasHeld =>
    if decide (cls = .ignore) || !closed then (.up, .quiet)
    else if wasHeld || decide (d ≤ k + 1) then pressCompletes cls d room wasHeld
    else (.pressPending (k + 1) false, .quiet)
  | .down =>
    if closed then (.down, .quiet)
    else if u ≤ 1 then (.up, .release)
    else (.releasePending 1, .quiet)
  | .releasePending k =>
    if closed then (.down, .quiet)
    else if u ≤ k + 1 then (.up, .release)
    else (.releasePending (k + 1), .quiet)

/-- The debounce state of a position. -/
def keyAt (L : Lane) (p : Nat) : KeyState := L.keys[p]?.getD .up

/-- Handing over what a transition completed (R34). -/
def handOver (l : LaneId) (p : Nat) (e : KeyEvent) (s : State) : State :=
  match e with
  | .quiet => s
  | .press => press l p s
  | .release => release l p s
  | .blocked => count l .rolloverBlocked s

/-- The transition that the walk gives a position, from the lane as it stands (R20 step 3). -/
def walkStep (L : Lane) (closed : BitVec 128) (p : Nat) : KeyState × KeyEvent :=
  keyTransition (keymapAt L p).cls L.cfg.pressCount L.cfg.releaseCount (decide (rolloverCount L < L.cfg.rollover))
    (effectiveClosed L.cfg closed p (keyAt L p)) (keyAt L p)

/-- The walk at one position: its transition, and the hand-over before the walk goes on (R20, R34). A position that keeps
its state hands over nothing. -/
def visit (l : LaneId) (closed : BitVec 128) (s : State) (p : Nat) : State :=
  let L := s.lane l
  let t := walkStep L closed p
  if t.1 = keyAt L p then s
  else handOver l p t.2 (s.modLane l fun L => { L with keys := L.keys.setIfInBounds p t.1 })

/-- The walk of positions 0 to 127 in ascending order (R20 step 3). -/
def walk (l : LaneId) (closed : BitVec 128) (s : State) : State := (List.range 128).foldl (visit l closed) s

/-- Ghost analysis: an episode begins with a count and a GHOST fault, goes on, or ends (R20 step 2, R23). -/
def ghostAnalysis (l : LaneId) (closed : BitVec 128) (s : State) : State :=
  let L := s.lane l
  match lowestGhost L.cfg closed with
  | none => s.modLane l fun L => { L with ghost := false }
  | some p =>
    if L.ghost then s
    else offerFault l .ghost .keyboard p (count l .ghostEpisodes (s.modLane l fun L => { L with ghost := true }))

/-- Whether a sample pass of a lane ends now (R18). -/
def passDue (s : State) (l : LaneId) : Bool :=
  let L := s.lane l
  decide (L.run = .running) && decide (1 ≤ L.cfg.rows) && timerDue s.elapsed L.passTimer

/-- Whether the pass of a lane that ends now has a row whose turn has not come (R19). -/
def rowLeft (s : State) (l : LaneId) : Bool :=
  passDue s l &&
    match (s.lane l).rowTurn with
    | none => true
    | some r => decide (r + 1 < (s.lane l).cfg.rows)

/-- The turn of the next row of a pass, row 0 first: the row before it is released (R19). -/
def nextRow (L : Lane) : Lane :=
  { L with rowTurn := some (match L.rowTurn with
                            | none => 0
                            | some r => r + 1) }

/-- Every lane whose pass ends now and has a row left moves on to that row (R19; log entry 12). -/
def driveRows (s : State) : State := s.mapLanes fun l L => if rowLeft s l then nextRow L else L

/-- The pass timer set to end the next pass one period after the one that ends (R18), the contacts as this pass read
them, and the last row released (R19). -/
def nextPass (closed : BitVec 128) (L : Lane) : Lane :=
  { L with passTimer := L.passTimer.map (· + L.cfg.period), contacts := closed, rowTurn := none }

/-- The work of the end of a sample pass (R20): ghost analysis, the walk with its hand-overs, the notice. -/
def passWork (l : LaneId) (closed : BitVec 128) (s : State) : State :=
  notice l (walk l closed (ghostAnalysis l closed s))

/-- The end of a sample pass, when the pass timer has reached it (R18, R20). -/
def samplePass (l : LaneId) (closed : BitVec 128) (s : State) : State :=
  if passDue s l then passWork l closed (s.modLane l (nextPass closed)) else s

/-- The Key Matrix Unit's state at START, STOP and RESET_LANE, its pass timer apart (Table 2-3). -/
def clearMatrix (L : Lane) : Lane :=
  { L with keys := Vector.replicate 128 .up, ghost := false, rowTurn := none }

end Sys2Proof.Machine
end

