-- ==== Sys2Proof/Machine/ScannerPort.lean ====
section
/-! DEFINITION. The Scanner Ports (chapter 4) and the expectation logic (chapter 5): receiving characters,
completion, replies, the transmitter, and the requests PORT_CONFIG and SCANNER_SEND. -/

namespace Sys2Proof.Machine

/-- A port of a lane of the part. -/
def State.port (s : State) (l : LaneId) (p : PortId) : Port := (s.lane l).port p

/-- Whether a port's receiver watches its line: its lane runs and it is enabled (R61). -/
def listening (L : Lane) (p : PortId) : Bool := decide (L.run = .running) && (L.port p).cfg.enabled

/-! ### Characters (R60) -/

/-- The value of a received character: its data bits, 00h with a break (R60). -/
def charValue (cfg : PortConfig) (c : ScanChar) : Byte :=
  if c.quality = .brk then 0 else if cfg.sevenBits then c.value &&& 0x7F else c.value

/-- The fault a damaged byte raises, `none` for a good one. A character is never wrong in a parity that is not
configured (R60, R67; log entry 17). -/
def charFault (cfg : PortConfig) (c : ScanChar) : Option FaultKind :=
  match c.quality with
  | .good => none
  | .framing | .brk => some .lineFraming
  | .parity => if cfg.parity = .none then none else some .lineParity

/-- Whether a received character is a good byte equal to a value. -/
def goodByte (cfg : PortConfig) (c : ScanChar) (b : Byte) : Bool :=
  (charFault cfg c).isNone && decide (charValue cfg c = b)

/-! ### The receiver (R62 to R67) -/

/-- The gap timer started at a moment; a gap timeout of 0 leaves it stopped (R66). -/
def startGap (now : Nat) (P : Port) : Port :=
  { P with gap := if P.cfg.gapTimeout = 0 then none else some (now + P.cfg.gapTimeout) }

/-- HUNT with an empty buffer and the gap timer stopped (R62, R69). -/
def toHunt (P : Port) : Port :=
  { P with rx := .hunt, buf := [], damaged := false, firstDamaged := false, lineFault := false, gap := none }

/-- The receiver ignoring its line, whatever it held abandoned (R1, R3). -/
def toIgnoring (P : Port) : Port :=
  { P with rx := .ignoring, buf := [], damaged := false, firstDamaged := false, lineFault := false, gap := none }

/-- ASSEMBLY with an empty buffer and both marks clear (R62). -/
def toAssembly (P : Port) : Port :=
  { P with rx := .assembly, buf := [], damaged := false, firstDamaged := false, lineFault := false }

/-- A byte appended to the buffer with its marks, the gap timer restarted (R64, R67). -/
def appendByte (now : Nat) (value : Byte) (bad : Bool) (P : Port) : Port :=
  startGap now { P with buf := P.buf ++ [value], damaged := P.damaged || bad, lineFault := P.lineFault || bad,
                        firstDamaged := if P.buf.isEmpty then bad else P.firstDamaged }

/-- A character appended in ASSEMBLY; the first damaged byte of a record raises its line fault (R64, R67). -/
def appendChar (l : LaneId) (p : PortId) (c : ScanChar) (s : State) : State :=
  let P := s.port l p
  let value := charValue P.cfg c
  let s1 := s.modPort l p (appendByte s.elapsed value (charFault P.cfg c).isSome)
  match charFault P.cfg c with
  | none => s1
  | some kind => if P.lineFault then s1 else offerFault l kind (.port p) value.toNat s1

/-- A 49th byte: RECORD_TOO_LONG with the first code byte, the buffer discarded, SKIP with the gap timer running (R65). -/
def recordTooLong (l : LaneId) (p : PortId) (s : State) : State :=
  let s1 := offerFault l .recordTooLong (.port p) (u8 (s.port l p).buf 0) s
  s1.modPort l p fun P => startGap s.elapsed { toHunt P with rx := .skip }

/-! ### Replies (R84 to R88) -/

/-- Whether an expectation is outstanding (R79). -/
def outstanding (e : Expect) : Bool := decide (e = .awaitingSend) || decide (e = .timing)

/-- An expectation that ends with NONE: timer stopped, the command's last byte unmarked (R83, R84). -/
def endExpectation (P : Port) : Port := { unmark P with expect := .idle, replyTimer := none }

/-- A reply-marked record taken as the answer to the outstanding command (R84, R85). -/
def takeReply (l : LaneId) (p : PortId) (code : List Byte) (damaged : Bool) (s : State) : State :=
  let s1 := offer l (.scannerReply p ((code.drop 1).take 6)) { truncated := decide (7 < code.length), damaged := damaged } s
  (raise l flagScanner s1).modPort l p endExpectation

/-- A reply-marked record given to the expectation logic (R84, R87, R88). -/
def deliverReply (l : LaneId) (p : PortId) (code : List Byte) (damaged : Bool) (s : State) : State :=
  match (s.port l p).expect with
  | .awaitingSend | .timing => takeReply l p code damaged s
  | .timedOut => (offerFault l .replyLate (.port p) (code.length - 1) s).modPort l p fun P => { P with expect := .idle }
  | .idle => offerFault l .replyUnexpected (.port p) (code.length - 1) s

/-! ### Completion and the hand-off slot (R69 to R71) -/

/-- A completed scan record: it enters an empty slot and is attempted if it is the head, or it is an overrun (R70, R71, R96). -/
def enterSlot (l : LaneId) (p : PortId) (code : List Byte) (damaged : Bool) (s : State) : State :=
  match (s.port l p).slot with
  | some _ => lose l (offerFault l .recordOverrun (.port p) code.length s)
  | none =>
    let s1 := s.modPort l p fun P => { P with slot := some { code := code, damaged := damaged, time := s.clock } }
    if headPort (s1.lane l) = some p then attemptChain l false s1 else s1

/-- Whether a completed record is reply-marked: a reply mark is configured, and the first code byte is a good byte equal
to it (R69). -/
def replyMarked (P : Port) : Bool :=
  P.cfg.replyMark.present && !P.firstDamaged && decide (P.buf.head? = some P.cfg.replyMark.value)

/-- A record completed by its terminator (R69). -/
def complete (l : LaneId) (p : PortId) (s : State) : State :=
  let P := s.port l p
  let s1 := s.modPort l p toHunt
  if replyMarked P then deliverReply l p P.buf P.damaged s1 else enterSlot l p P.buf P.damaged s1

/-- A character in HUNT (R62, R63). -/
def huntChar (l : LaneId) (p : PortId) (c : ScanChar) (s : State) : State :=
  let P := s.port l p
  if P.cfg.pre.present then
    if goodByte P.cfg c P.cfg.pre.value then s.modPort l p fun P => startGap s.elapsed (toAssembly P) else s
  else if goodByte P.cfg c P.cfg.terminator then s
  else appendChar l p c (s.modPort l p toAssembly)

/-- A character in ASSEMBLY (R64, R65). -/
def assemblyChar (l : LaneId) (p : PortId) (c : ScanChar) (s : State) : State :=
  let P := s.port l p
  if goodByte P.cfg c P.cfg.terminator then
    if P.buf.isEmpty then s.modPort l p toHunt else complete l p s
  else if Config.codeBytes ≤ P.buf.length then recordTooLong l p s
  else appendChar l p c s

/-- A character in SKIP (R65). -/
def skipChar (l : LaneId) (p : PortId) (c : ScanChar) (s : State) : State :=
  if goodByte (s.port l p).cfg c (s.port l p).cfg.terminator then s.modPort l p toHunt
  else s.modPort l p (startGap s.elapsed)

/-- A character received: discarded while the receiver ignores its line, or when its start bit began before START (R61),
and else taken by the receiver state (Table 4-3). -/
def receiveChar (l : LaneId) (p : PortId) (c : ScanChar) (s : State) : State :=
  let P := s.port l p
  let s1 := s.modPort l p fun P => { P with charStart := false, charDrop := false }
  if P.charDrop || !listening (s.lane l) p then s1
  else
    match P.rx with
    | .ignoring => s1
    | .hunt => huntChar l p c s1
    | .assembly => assemblyChar l p c s1
    | .skip => skipChar l p c s1

/-- The start bit of a character: it stops the gap timer until the character is received (R66). A character that a START found
in progress is over when the next one starts (R61). -/
def startBit (P : Port) : Port := { P with gap := none, charStart := true, charDrop := false }

/-- Whether a port's gap timer expires now (R66). -/
def gapDue (s : State) (l : LaneId) (p : PortId) : Bool :=
  listening (s.lane l) p && (decide ((s.port l p).rx = .assembly) || decide ((s.port l p).rx = .skip)) &&
    timerDue s.elapsed (s.port l p).gap

/-- The gap timer's expiry: RECORD_FRAGMENT in ASSEMBLY, and HUNT (R65, R66). -/
def gapExpires (l : LaneId) (p : PortId) (s : State) : State :=
  if gapDue s l p then
    let s1 :=
      if (s.port l p).rx = .assembly then offerFault l .recordFragment (.port p) (s.port l p).buf.length s else s
    s1.modPort l p toHunt
  else s

/-! ### The transmitter and the reply timer (R76, R83, R86) -/

/-- A port's reply timeout in milliseconds (R83). -/
def replyMs (cfg : PortConfig) : Nat := 10 * cfg.replyTimeout

/-- The stop bit of the byte in transmission sent: the notice of a marked byte starts the reply timer, and the next queued
byte begins (R76, R83). -/
def byteSent (now : Nat) (P : Port) : Port :=
  match P.tx with
  | none => P
  | some t =>
    let P1 := beginNext { P with tx := none }
    if t.last && decide (P.expect = .awaitingSend) then
      { P1 with expect := .timing, replyTimer := some (now + replyMs P.cfg) }
    else P1

/-- Whether a port's transmit pin rests high: no byte is in transmission and none waits (R76, R77; log entry 15). -/
def txRestsHigh (P : Port) : Bool := P.tx.isNone && P.txq.isEmpty

/-- Whether a port's reply timer expires now (R86). -/
def replyDue (s : State) (l : LaneId) (p : PortId) : Bool :=
  decide ((s.port l p).expect = .timing) && timerDue s.elapsed (s.port l p).replyTimer

/-- The reply timer's expiry (R86). -/
def replyExpires (l : LaneId) (p : PortId) (s : State) : State :=
  if replyDue s l p then
    let s1 := offer l (.scannerTimeout p) {} s
    let s2 := offerFault l .replyTimeout (.port p) (replyMs (s.port l p).cfg) s1
    (raise l flagScanner s2).modPort l p fun P => { P with expect := .timedOut, replyTimer := none }
  else s

/-! ### START, STOP and RESET_LANE at a port (R78, R91) -/

/-- A port at START: an enabled port hunts with everything empty, and a character in progress is to be discarded (R2, R61, R78).
A byte in transmission goes on (R77). -/
def startPort (P : Port) : Port :=
  let P1 := { endExpectation P with slot := none, txq := [], charDrop := P.charStart }
  if P.cfg.enabled then toHunt P1 else toIgnoring P1

/-- A port at STOP and RESET_LANE: the receiver ignores its line, the transmit queue and the slot are emptied, and the
expectation is cancelled; a byte in transmission completes without a notice (R3, R77, R91). -/
def stopPort (P : Port) : Port := toIgnoring { endExpectation P with slot := none, txq := [] }

/-! ### Requests -/

/-- The port configuration of a PORT_CONFIG body with its timeouts as given, if its fields are defined (R57, Table 11-6). -/
def portGiven (body : List Byte) : Option PortConfig :=
  match parityOf (u8 body 5) with
  | none => none
  | some parity =>
    if offOn body 2 && decide (u8 body 3 ≤ 7) && (decide (u8 body 4 = 7) || decide (u8 body 4 = 8)) &&
        bitsBelow 4 (u8 body 6) && offOn body 14 then
      some
        { enabled := isOn body 2, rate := u8 body 3, sevenBits := decide (u8 body 4 = 7), parity := parity
          pre := { present := (body.getD 6 0).getLsbD 0, value := body.getD 7 0 }
          terminator := body.getD 8 0
          replyMark := { present := (body.getD 6 0).getLsbD 1, value := body.getD 9 0 }
          gapTimeout := u8 body 10
          goodTone := { present := (body.getD 6 0).getLsbD 2, value := body.getD 11 0 }
          badTone := { present := (body.getD 6 0).getLsbD 3, value := body.getD 12 0 }
          replyTimeout := u8 body 13, holdActiveLow := isOn body 14 }
    else none

/-- Whether a byte field that is present lies above 7Fh. -/
def aboveSeven (b : OptByte) : Bool := b.present && decide (0x7F < b.value.toNat)

/-- Whether the byte-valued fields break R58. -/
def byteFieldsBad (c : PortConfig) : Bool :=
  (c.sevenBits && (aboveSeven c.pre || aboveSeven c.replyMark || aboveSeven c.goodTone || aboveSeven c.badTone ||
    decide (0x7F < c.terminator.toNat))) ||
  (c.pre.present && decide (c.pre.value = c.terminator)) ||
  (c.replyMark.present && decide (c.replyMark.value = c.terminator))

/-- The gap timeout and the reply timeout clamped (R59). -/
def clampPort (c : PortConfig) : PortConfig :=
  { c with gapTimeout := if c.gapTimeout = 0 then 0 else clamp 5 255 c.gapTimeout
           replyTimeout := clamp 1 255 c.replyTimeout }

/-- PORT_CONFIG, judged (R57 to R59). -/
def servePortConfig : Request := withLane 15 fun l body s =>
  match portOf body 1, portGiven body with
  | some p, some given =>
    if byteFieldsBad given then refuse .badValue s
    else if (s.lane l).run = .running then refuse .state s
    else
      accept (okOrClamped (decide (clampPort given ≠ given)))
        (s.modPort l p fun P => { P with cfg := clampPort given })
  | _, _ => refuse .badValue s

/-- The command bytes as they join the transmit queue, the last one marked when the expect flag is on (R81). -/
def commandBytes (bytes : List Byte) (expect : Bool) : List TxByte :=
  match bytes with
  | [] => []
  | [b] => [{ value := b, last := expect }]
  | b :: rest => { value := b } :: commandBytes rest expect

/-- An accepted SCANNER_SEND at its port (R81). -/
def sendPort (bytes : List Byte) (expect : Bool) (P : Port) : Port :=
  let cleared := if P.expect = .timedOut then .idle else P.expect
  beginNext { P with txq := P.txq ++ commandBytes bytes expect, expect := if expect then .awaitingSend else cleared }

/-- The judgements of a SCANNER_SEND of known port and expect flag that follow BAD_VALUE (R80, 4 to 6). -/
def sendRefusal (L : Lane) (p : PortId) (n : Nat) (expect : Bool) : Option Result :=
  let P := L.port p
  if L.run ≠ .running ∨ P.cfg.enabled = false then some .state
  else if expect = true ∧ P.cfg.replyMark.present = false then some .badValue
  else if txFree P < n ∨ (expect = true ∧ outstanding P.expect = true) then some .busy
  else none

/-- SCANNER_SEND, judged (R80, R81). -/
def serveScannerSend : Request := fun body s =>
  let n := u8 body 3
  if n = 0 ∨ 6 < n then
    match body with
    | lane :: _ => if lane.toNat < 4 then refuse .badLength s else refuse .badLane s
    | [] => refuse .badLength s
  else
    withLane (4 + n) (fun l body s =>
      match portOf body 1 with
      | none => refuse .badValue s
      | some p =>
        if !offOn body 2 then refuse .badValue s
        else
          match sendRefusal (s.lane l) p n (isOn body 2) with
          | some r => refuse r s
          | none => accept .ok (s.modPort l p (sendPort (body.drop 4) (isOn body 2)))) body s

end Sys2Proof.Machine
end

