-- ==== Sys2Proof/Machine/LaneControl.lean ====
section
/-! DEFINITION. The Lane Controller (chapter 1): LANE_CONFIG, START, STOP and RESET_LANE. -/

namespace Sys2Proof.Machine

/-- The lane configuration of a LANE_CONFIG body as given (Table 11-6). -/
def laneGiven (body : List Byte) : LaneConfig :=
  { rows := u8 body 1, cols := u8 body 2, period := u8 body 3, pressCount := u8 body 4, releaseCount := u8 body 5
    rollover := u8 body 6, diodes := isOn body 7, typeDelay := u8 body 8, typeInterval := u8 body 9
    reserve := u16 body 10, cap := u16 body 12, margin := u8 body 14, hysteresis := u8 body 15
    scanMask := body.getD 16 0, kickMask := body.getD 17 0, pauseMask := body.getD 18 0 }

/-- A lane configuration clamped to Table 1-7, and its reserve then lowered to its cap (R8). -/
def clampLane (c : LaneConfig) : LaneConfig :=
  let cap := clamp 16 512 c.cap
  { c with
    rows := clamp 0 8 c.rows, cols := clamp 1 16 c.cols, period := clamp 1 10 c.period
    pressCount := clamp 1 8 c.pressCount, releaseCount := clamp 1 8 c.releaseCount, rollover := clamp 1 8 c.rollover
    typeDelay := clamp 10 255 c.typeDelay, typeInterval := clamp 2 255 c.typeInterval
    reserve := min (clamp 0 256 c.reserve) cap, cap := cap
    margin := clamp 1 64 c.margin, hysteresis := clamp 0 64 c.hysteresis }

/-- Whether the three lock masks have no bit above the six lock positions (R7). -/
def masksDefined (body : List Byte) : Bool :=
  bitsBelow 6 (u8 body 16) && bitsBelow 6 (u8 body 17) && bitsBelow 6 (u8 body 18)

/-- The part with a lane's new configuration in place. -/
def withConfig (l : LaneId) (c : LaneConfig) (s : State) : State := s.modLane l fun L => { L with cfg := c }

/-- The three limits of R9, judged on the part with the lane's new configuration in place. -/
def roomFor (l : LaneId) (c : LaneConfig) (s : State) : Bool :=
  let s' := withConfig l c s
  decide (sumLanes (fun L => L.cfg.reserve) s' ≤ Config.poolSlots) && decide (occupancy (s'.lane l) ≤ c.cap) &&
    decide (sumLanes sharedUse s' ≤ sharedPart s')

/-- LANE_CONFIG, judged (R7 to R10): BAD_LANE, BAD_LENGTH, BAD_VALUE, STATE, NO_ROOM. -/
def serveLaneConfig : Request := withLane 19 fun l body s =>
  let given := laneGiven body
  if !offOn body 7 || !masksDefined body then refuse .badValue s
  else if (s.lane l).run = .running then refuse .state s
  else if !roomFor l (clampLane given) s then refuse .noRoom s
  else accept (okOrClamped (decide (clampLane given ≠ given))) (recompute s (withConfig l (clampLane given) s))

/-- The lane section at START, before its LANE_START record is offered (R2, steps 1 to 5). -/
def startLane (now : Nat) (L : Lane) : Lane :=
  let L1 := clearKeymapUnit (clearMatrix { L with run := .running })
  { L1 with
    passTimer := if L.cfg.rows = 0 then none else some (now + L.cfg.period)
    lock := computeLock L1
    portA := startPort L.portA, portB := startPort L.portB
    drawer := { L.drawer with st := .settling, tries := 0, kick := false, pulse := none, retry := none,
                              openTimer := .stopped, measure := some now } }

/-- START, judged (R2). HOLD is re-evaluated at the end of the event (step 6). -/
def serveStart : Request := withLane 1 fun l _ s =>
  if (s.lane l).run = .running then refuse .state s
  else accept .ok (offer l .laneStart {} (s.modLane l (startLane s.elapsed)))

/-- Sampling halted and all key state discarded, the lock position NONE (R3, steps 1 and 2). -/
def haltKeys (L : Lane) : Lane :=
  { clearKeymapUnit (clearMatrix L) with passTimer := none, lock := .noLock }

/-- A loss counted for a hand-off slot that STOP empties (R3, step 4). -/
def loseSlot (l : LaneId) (p : PortId) (s : State) : State :=
  if (s.port l p).slot.isSome then lose l s else s

/-- STOP of a running lane (R3). -/
def stopLane (l : LaneId) (s : State) : State :=
  let D := (s.lane l).drawer
  let s1 := s.modLane l haltKeys
  let s2 := loseSlot l .B (loseSlot l .A s1)
  let s3 := s2.modLane l fun L => { L with portA := stopPort L.portA, portB := stopPort L.portB }
  let s4 := s3.modDrawer l fun D => { D with kick := false, pulse := none, retry := none }
  let s5 := if kicking D then offer l (.drawerAbort .stop D.tries) {} s4 else s4
  s5.modLane l fun L => { L with run := .ready, drawer := enterSettling L.drawer }

/-- STOP, judged (R3): in READY it is answered OK and changes nothing. -/
def serveStop : Request := withLane 1 fun l _ s =>
  if (s.lane l).run = .running then accept .ok (stopLane l s) else accept .ok s

/-- The lane section at RESET_LANE (R5): READY, its records, faults, counters and flags cleared; configuration, port
configurations, drawer settings, keymap, enable mask and general lines kept. -/
def resetLane (L : Lane) : Lane :=
  { haltKeys L with
    run := .ready, portA := stopPort L.portA, portB := stopPort L.portB, drawer := enterSettling L.drawer
    queue := [], storeHigh := false, recent := [], lost := 0, fault := {}, counters := Vector.replicate 12 0
    counterLatch := none, sticky := 0, reported := 0, lastLock := none }

/-- RESET_LANE, judged (R5, R6). -/
def serveResetLane : Request := withLane 1 fun l _ s => accept .ok (recompute s (s.modLane l resetLane))

end Sys2Proof.Machine
end

