-- ==== Sys2Proof/Machine/Attention.lean ====
section
/-! DEFINITION. Attention, Faults and Counters (chapter 9): STATUS, ACK_FLAGS, ATTN_MASK, CLEAR_FAULT,
LATCH_COUNTERS, READ_COUNTERS, CLEAR_COUNTERS. -/

namespace Sys2Proof.Machine

/-- The value of a fault kind (Table 11-4). -/
def faultKindNum : FaultKind → Nat
  | .none => 0
  | .lineFraming => 1
  | .lineParity => 2
  | .recordTooLong => 3
  | .recordFragment => 4
  | .recordOverrun => 5
  | .replyTimeout => 6
  | .replyLate => 7
  | .replyUnexpected => 8
  | .ghost => 9
  | .kickNoOpen => 10

/-- The value of a fault source (Table 11-4). -/
def faultSourceNum : FaultSource → Nat
  | .none => 0
  | .keyboard => 1
  | .port .A => 2
  | .port .B => 3
  | .drawer => 4

/-- The Fault Record image (Table 11-12). -/
def faultImage (r : FaultRecord) : List Byte :=
  boolByte r.locked :: byteOf (faultKindNum r.kind) :: byteOf (faultSourceNum r.source) :: le48 r.time ++
    le16 r.detail.toNat ++ [byteOf r.further]

/-- The value of a lane state (Table 11-4). -/
def laneStateNum : LaneState → Nat
  | .ready => 0
  | .running => 1

/-- The value of a drawer state (Table 11-4). -/
def drawerStateNum : DrawerState → Nat
  | .settling => 0
  | .shut => 1
  | .kickPulse => 2
  | .kickWait => 3
  | .opened => 4
  | .overdue => 5

/-- The value of a lock position (Table 11-4). -/
def lockNum : LockPos → Nat
  | .index i => i
  | .inTransit => 6
  | .noLock => 7

/-- The value of an expectation state (Table 11-4). -/
def expectNum : Expect → Nat
  | .idle => 0
  | .awaitingSend => 1
  | .timing => 2
  | .timedOut => 3

/-- The HOLD and slot byte (Table 11-5). -/
def holdSlotByte (L : Lane) : Byte :=
  byteOf (L.portA.hold.toNat + 2 * L.portB.hold.toNat + 4 * L.portA.slot.isSome.toNat + 8 * L.portB.slot.isSome.toNat)

/-- The reply body of a lane STATUS (R164, Table 11-11). -/
def laneStatus (s : State) (l : LaneId) : List Byte :=
  let L := s.lane l
  resultByte .ok :: byteOf l.val :: byteOf (laneStateNum L.run) :: byteOf (drawerStateNum L.drawer.st) ::
    byteOf (lockNum L.lock) :: le16 (occupancy L) ++ le16 (headroom s l) ++
    [boolByte L.storeHigh, holdSlotByte L, byteOf (expectNum L.portA.expect), byteOf (expectNum L.portB.expect),
     byteOf L.lost, laneFlags L] ++ faultImage L.fault

/-- The reply body of a device STATUS (R165, Table 11-10). -/
def deviceStatus (s : State) : List Byte :=
  resultByte .ok :: 0xFF :: deviceFlags s :: le48 s.clock ++ le16 (freeShared s) ++ le16 (totalFree s) ++
    le16 s.badFrames ++ le16 s.overruns

/-- STATUS, judged (R164, R165): the reply shows the scope as it stands, and its reported set becomes the sticky flags
shown set. -/
def serveStatus : Request := withScope 1 fun scope _ s =>
  match scope with
  | .lane l => (s.modLane l fun L => { L with reported := laneFlags L &&& stickyFlags }, laneStatus s l)
  | .device => ({ s with linkReported := s.link }, deviceStatus s)

/-- Whether a flag mask names only flags of its scope (R166, Table 11-5). -/
def maskDefined (scope : Scope) (mask : Nat) : Bool :=
  match scope with
  | .lane _ => bitsBelow 7 mask
  | .device => bitsBelow 2 mask

/-- A lane acknowledging flags: the masked sticky flags in the reported set are cleared, and leave it (R166). -/
def ackLane (mask : Byte) (L : Lane) : Lane :=
  let acked := mask &&& L.reported
  { L with sticky := L.sticky &&& ~~~acked, reported := L.reported &&& ~~~acked }

/-- The device acknowledging LINK (R166). -/
def ackDevice (mask : Byte) (s : State) : State :=
  if mask &&& flagLink ≠ 0 ∧ s.linkReported = true then { s with link := false, linkReported := false } else s

/-- ACK_FLAGS, judged (R166). -/
def serveAckFlags : Request := withScope 2 fun scope body s =>
  if !maskDefined scope (u8 body 1) then refuse .badValue s
  else
    match scope with
    | .lane l =>
      let s1 := s.modLane l (ackLane (body.getD 1 0))
      (s1, [resultByte .ok, byteOf l.val, laneFlags (s1.lane l)])
    | .device =>
      let s1 := ackDevice (body.getD 1 0) s
      (s1, [resultByte .ok, 0xFF, deviceFlags s1])

/-- ATTN_MASK, judged (R168). -/
def serveAttnMask : Request := withScope 2 fun scope body s =>
  if !maskDefined scope (u8 body 1) then refuse .badValue s
  else
    match scope with
    | .lane l => accept .ok (s.modLane l fun L => { L with enable := body.getD 1 0 })
    | .device => accept .ok { s with deviceEnable := body.getD 1 0 }

/-- CLEAR_FAULT, judged (R172). -/
def serveClearFault : Request := withLane 1 fun l _ s =>
  (s.modLane l fun L => { L with fault := {} },
    resultByte .ok :: byteOf l.val :: faultImage (s.lane l).fault)

/-- Whether LATCH_COUNTERS latches a lane: it is named and its latch is empty (R174). -/
def latches (mask : Byte) (l : LaneId) (L : Lane) : Bool := mask.getLsbD l.val && L.counterLatch.isNone

/-- The counter latch of a named lane filled when empty (R174). -/
def latchLane (mask : Byte) (clock : Clock) (l : LaneId) (L : Lane) : Lane :=
  if latches mask l L then { L with counterLatch := some { time := clock, values := L.counters } } else L

/-- The lanes latched by a request, as a bit set (Table 11-10). -/
def latchedMask (mask : Byte) (s : State) : Nat :=
  (([0, 1, 2, 3] : List LaneId).map fun l => if latches mask l (s.lane l) then 2 ^ l.val else 0).sum

/-- LATCH_COUNTERS, judged (R174). -/
def serveLatchCounters : Request := withLength 1 fun body s =>
  if !bitsBelow 4 (u8 body 0) then refuse .badValue s
  else
    (s.mapLanes (latchLane (body.getD 0 0) s.clock),
      [resultByte .ok, byteOf (latchedMask (body.getD 0 0) s)])

/-- Twelve counters as they are sent (Table 11-10). -/
def counterBytes (v : Vector (BitVec 32) 12) : List Byte := v.toList.flatMap fun c => le32 c.toNat

/-- READ_COUNTERS, judged (R175). -/
def serveReadCounters : Request := withLane 1 fun l _ s =>
  let L := s.lane l
  match L.counterLatch with
  | some image =>
    (s.modLane l fun L => { L with counterLatch := none },
      resultByte .ok :: byteOf l.val :: 0x01 :: le48 image.time ++ counterBytes image.values)
  | none => (s, resultByte .ok :: byteOf l.val :: 0x00 :: le48 s.clock ++ counterBytes L.counters)

/-- CLEAR_COUNTERS, judged (R176). -/
def serveClearCounters : Request := withLane 1 fun l _ s =>
  accept .ok (s.modLane l fun L => { L with counters := Vector.replicate 12 0 })

end Sys2Proof.Machine
end

