-- ==== Sys2Proof/Machine/EventStore.lean ====
section
/-! DEFINITION. Fetching and purging the Event Store (chapter 7, R133 to R136). The admission arithmetic stands in
Machine/Ops.lean. -/

namespace Sys2Proof.Machine

/-- How many records from the head of a queue a FETCH takes: at most `max`, none that would bring the bytes above
`room`, and stopping at the first that would (R134). -/
def fetchCount (max room : Nat) : List Rec → Nat
  | [] => 0
  | r :: rest =>
    if max = 0 then 0
    else if room < recordLength r.body then 0
    else 1 + fetchCount (max - 1) (room - recordLength r.body) rest

/-- The bytes of a FETCH reply before the records: result, lane, count taken, records left (R134). -/
def fetchHeader : Nat := 5

/-- The lane queue after its n oldest records are removed, with the recompute and growth reports when any was (R135). -/
def removeOldest (l : LaneId) (n : Nat) (s : State) : State :=
  if n = 0 then s else recompute s (s.modLane l fun L => { L with queue := L.queue.drop n })

/-- FETCH, judged (R133, R134, R135). -/
def serveFetch : Request := withLane 2 fun l body s =>
  let asked := u8 body 1
  let queue := (s.lane l).queue
  let n := fetchCount (max asked 1) (Config.replyBytes - fetchHeader) queue
  (removeOldest l n s,
    resultByte (okOrClamped (decide (asked = 0))) :: byteOf l.val :: byteOf n :: le16 (queue.length - n) ++
      (queue.take n).flatMap recordBytes)

/-- PURGE, judged (R136). -/
def servePurge : Request := withLane 1 fun l _ s =>
  let n := (s.lane l).queue.length
  (removeOldest l n s, resultByte .ok :: le16 n)

end Sys2Proof.Machine
end

