-- ==== Sys2Proof/Machine/GeneralLines.lean ====
section
/-! DEFINITION. The 26 general lines of a lane (section 1.13, R11 to R16): ownership, what a pin does, and the
requests LINES_SET, LINES_DIR and LINES_READ. -/

namespace Sys2Proof.Machine

/-- Whether the keyboard owns a line: the lane runs with rows, and the line is inside its geometry (R12). -/
def lineOwned (L : Lane) (n : Nat) : Bool :=
  decide (L.run = .running) && decide (1 ≤ L.cfg.rows) &&
    (decide (n < L.cfg.rows ∧ n < 8) || decide (8 ≤ n ∧ n < 8 + L.cfg.cols ∧ n < 24))

/-- What the part does to a pin. -/
inductive Drive where
  | low
  | high
  | pulledUp
  | released
  deriving DecidableEq, Repr

/-- What the part does to an unowned line's pin (Table 1-8). -/
def unownedDrive (L : Lane) (n : Nat) : Drive :=
  if L.lineDir.getLsbD n then
    if L.lineLatch.getLsbD n then (if n < 8 then .released else .high) else .low
  else if L.pullUp then .pulledUp else .released

/-- What the part does to a line's pin: an owned row is low in its turn and released otherwise, an owned column is an input
with its pull-up on, and an unowned line follows Table 1-8 (R12, R19). -/
def linePin (L : Lane) (n : Nat) : Drive :=
  if lineOwned L n then
    if n < 8 then (if L.rowTurn = some n then .low else .released) else .pulledUp
  else unownedDrive L n

/-- The level of an undriven pin: what the outside gives it, or the pull-up's high when nothing is attached (R16, log entry 19). -/
def outsideLevel (L : Lane) (n : Nat) (pulled : Bool) : Bool :=
  if pulled && !L.lineAttached.getLsbD n then true else L.lineLevel.getLsbD n

/-- Whether a closed contact joins a column to the row in its turn (R16). DESIGN CHOICE, unsafe: section 2.3 has a row reach a column
through three other closed keys too, and R16 does not say whether such a path counts; the model reads the contact of the direct
crossing alone (log entry 34). -/
def columnLow (L : Lane) (n : Nat) : Bool :=
  match L.rowTurn with
  | none => false
  | some r => rawClosed L.cfg L.contacts (crossing r (n - 8))

/-- The present level of a line's pin as LINES_READ returns it (R16). DESIGN CHOICE, unsafe: R19 lets the closed keys of other rows
set the level of a released row, and R16 has an owned row read high outside its turn; the model follows R16, whatever contacts
join the row to the one in its turn (log entry 33). -/
def lineLevelNow (L : Lane) (n : Nat) : Bool :=
  if lineOwned L n then
    if n < 8 then !decide (L.rowTurn = some n) else !columnLow L n
  else
    match linePin L n with
    | .low => false
    | .high => true
    | .pulledUp => outsideLevel L n true
    | .released => outsideLevel L n false

/-- A bit set over the 26 lines as it is sent (Table 11-5). -/
def lineBits (f : Nat → Bool) : Nat := ((List.range 26).map fun n => if f n then 2 ^ n else 0).sum

/-- LINES_SET, judged (R13). -/
def serveLinesSet : Request := withLane 9 fun l body s =>
  let mask := u32 body 1
  let values := u32 body 5
  if !bitsBelow 26 mask || !bitsBelow 26 values then refuse .badValue s
  else
    let m := BitVec.ofNat 26 mask
    accept .ok (s.modLane l fun L =>
      { L with lineLatch := (L.lineLatch &&& ~~~m) ||| (BitVec.ofNat 26 values &&& m) })

/-- LINES_DIR, judged (R14). -/
def serveLinesDir : Request := withLane 10 fun l body s =>
  let mask := u32 body 1
  let dirs := u32 body 5
  if !bitsBelow 26 mask || !bitsBelow 26 dirs || !offOn body 9 then refuse .badValue s
  else
    let m := BitVec.ofNat 26 mask
    accept .ok (s.modLane l fun L =>
      { L with lineDir := (L.lineDir &&& ~~~m) ||| (BitVec.ofNat 26 dirs &&& m), pullUp := isOn body 9 })

/-- The reply to a LINES_READ: levels, latches, directions, pull-up enable, owned lines (R16). -/
def linesReply (l : LaneId) (L : Lane) : List Byte :=
  resultByte .ok :: byteOf l.val :: le32 (lineBits (lineLevelNow L)) ++ le32 L.lineLatch.toNat ++
    le32 L.lineDir.toNat ++ [boolByte L.pullUp] ++ le32 (lineBits (lineOwned L))

/-- A lane section with what the outside gives its pins now: the lines' levels, and the contacts of its keys (log entry 19). -/
def pinsGiven (pins : PinInputs) (L : Lane) : Lane :=
  { L with lineLevel := pins.level, lineAttached := pins.attached, contacts := pins.contacts }

/-- LINES_READ, judged, with what the outside gives the pins at the moment it is served (R16). -/
def serveLinesRead (outside : Outside) : Request := withLane 1 fun l _ s =>
  let s' := s.modLane l (pinsGiven outside[l])
  (s', linesReply l (s'.lane l))

end Sys2Proof.Machine
end

