-- ==== Sys2Proof/Machine/SystemLine.lean ====
section
/-! DEFINITION. The System Line (chapter 10): frames, the frame receiver, the holding area, serving and replies,
the device requests and the resets. -/

namespace Sys2Proof.Machine

/-! ### Device requests (R184 to R186) -/

/-- IDENTIFY, judged (R184). -/
def serveIdentify : Request := withLength 0 fun _ s =>
  (s, resultByte .ok :: le16 Config.partCode.toNat ++ [Config.revision, 4, 2] ++ le16 Config.poolSlots)

/-- GET_TIME, judged (R184). -/
def serveGetTime : Request := withLength 0 fun _ s => (s, resultByte .ok :: le48 s.clock)

/-- Whether a lane holds a record in its queue or in a hand-off slot (R185). -/
def laneHolds (L : Lane) : Bool := !L.queue.isEmpty || L.portA.slot.isSome || L.portB.slot.isSome

/-- SET_TIME, judged (R185). -/
def serveSetTime : Request := withLength 6 fun body s =>
  if s.lanes.toList.any laneHolds then refuse .notEmpty s
  else accept .ok { s with clock := BitVec.ofNat 48 (u48 body 0) }

/-- RESET_DEVICE, judged: the reset is armed, and acts when its reply has been sent (R186). -/
def serveResetDevice : Request := withLength 0 fun _ s => accept .ok { s with resetArmed := true }

/-- A kind that names no request: answered UNKNOWN_KIND, changing nothing, whatever the body (R182). -/
def serveUnknown : Request := fun _ s => refuse .unknownKind s

/-! ### Serving (R181 to R183) -/

/-- The kind byte of a reply: the request's plus 80h, or FFh for a kind of 80h or above (R183). -/
def replyKind (kind : Byte) : Byte := if 0x80 ≤ kind.toNat then 0xFF else kind + 0x80

/-- The receiver hunting with the gap limit stopped, after a good frame or an abandoned one (R179, R180). -/
def lineHunt (s : State) : State := { s with rx := .hunt, lineGap := none }

/-- A frame bad, counted and LINK raised (R179). -/
def badFrameCounted (s : State) : State := raiseLink { s with badFrames := min (s.badFrames + 1) 65535 }

/-- A good frame at the holding area: discarded without trace once a RESET_DEVICE has been served (R186), an overrun when
the area holds two frames, and else served as it enters, with its reply formed (R181 to R183). -/
def goodFrame (serve : Request) (kind : Byte) (body : List Byte) (s : State) : State :=
  if s.resetArmed then s
  else if Config.areaFrames ≤ s.area.length then raiseLink { s with overruns := min (s.overruns + 1) 65535 }
  else
    let out := serve body s
    { out.1 with area := out.1.area ++ [{ kind := kind, body := body, reply := frameBytes (replyKind kind) out.2 }] }

/-- The dispatcher: the owning block of a kind byte (R182, Table 11-3), of which LINES_READ reads what the outside gives the pins
at the moment of serving (R16). -/
def requestOf (outside : Outside) (kind : Byte) : Request :=
  if kind = 0x01 then serveIdentify
  else if kind = 0x02 then serveGetTime
  else if kind = 0x03 then serveSetTime
  else if kind = 0x04 then serveResetDevice
  else if kind = 0x10 then serveLaneConfig
  else if kind = 0x11 then serveStart
  else if kind = 0x12 then serveStop
  else if kind = 0x13 then serveResetLane
  else if kind = 0x14 then serveLinesSet
  else if kind = 0x15 then serveLinesDir
  else if kind = 0x16 then serveLinesRead outside
  else if kind = 0x20 then serveKeymapWrite
  else if kind = 0x21 then serveKeymapRead
  else if kind = 0x28 then servePortConfig
  else if kind = 0x29 then serveScannerSend
  else if kind = 0x30 then serveFilterConfig
  else if kind = 0x31 then serveSymbologyWrite
  else if kind = 0x32 then serveForget
  else if kind = 0x38 then serveFetch
  else if kind = 0x39 then servePurge
  else if kind = 0x40 then serveDrawerConfig
  else if kind = 0x41 then serveKick
  else if kind = 0x48 then serveStatus
  else if kind = 0x49 then serveAckFlags
  else if kind = 0x4A then serveAttnMask
  else if kind = 0x4B then serveClearFault
  else if kind = 0x4C then serveLatchCounters
  else if kind = 0x4D then serveReadCounters
  else if kind = 0x4E then serveClearCounters
  else serveUnknown

/-- A request's frame completing at the receiver, which hunts again, and reaching the holding area (R179, R181; log entry 6). -/
def frameCompletes (serve : Request) (kind : Byte) (body : List Byte) (s : State) : State :=
  goodFrame serve kind body { lineHunt s with lineStart := false, lineDrop := false }

/-! ### The frame receiver (R179, R180) -/

/-- What the bytes after a start byte make: a frame still incomplete, bad, or good with the characters after it. -/
inductive FrameJudged where
  | incomplete
  | bad
  | good (kind : Byte) (body : List Byte) (after : List LineChar)

/-- The kind and body of a good frame's bytes after its length byte, check byte included. -/
def judgeSum (length : Byte) (covered : List Byte) (after : List LineChar) : FrameJudged :=
  if byteSum (length :: covered) = 0 then .good (covered.headD 0) ((covered.drop 1).dropLast) after else .bad

/-- The characters after a start byte, judged in turn: a damaged character, a length of 0 or above 251, or a sum other than
0 makes the frame bad (R178, R179). -/
def judgeFrame : List LineChar → FrameJudged
  | [] => .incomplete
  | c :: rest =>
    let n := c.value.toNat
    let part := rest.take (n + 1)
    if c.damaged ∨ n = 0 ∨ 251 < n then .bad
    else if part.any LineChar.damaged then .bad
    else if rest.length < n + 1 then .incomplete
    else judgeSum c.value (part.map LineChar.value) (rest.drop (n + 1))

/-- The receiver hunting through characters: a good 5Ah starts a frame; a bad frame is counted and the hunt resumes at the
character after its start byte; a good frame is served, an event of its own at whose end the outputs are judged, and the
hunt goes on after it (R179). DESIGN CHOICE, unsafe: that it goes on through the characters already taken, where the good frame was
found among bytes examined again, R179 leaves open (log entry 36). Each character is a step of fuel, of which the number of characters is enough. -/
def hunt (outside : Outside) : Nat → List LineChar → State → State
  | 0, _, s => { s with rx := .hunt }
  | _, [], s => { s with rx := .hunt }
  | fuel + 1, c :: rest, s =>
    if c.damaged ∨ c.value ≠ 0x5A then hunt outside fuel rest s
    else
      match judgeFrame rest with
      | .incomplete => { s with rx := .frame (rest.map LineChar.value) }
      | .bad => hunt outside fuel rest (badFrameCounted s)
      | .good kind body after => hunt outside fuel after (settle (goodFrame (requestOf outside kind) kind body s))

/-- The characters a receiver already holds, from its start byte on (R179). -/
def heldChars : LineRx → List LineChar
  | .hunt => []
  | .frame taken => { value := 0x5A, damaged := false } :: taken.map fun b => { value := b, damaged := false }

/-- The gap limit after characters were taken: running from now in FRAME, stopped in HUNT (R180). -/
def restartLineGap (s : State) : State :=
  { s with lineGap := match s.rx with
                      | .hunt => none
                      | .frame _ => some s.elapsed }

/-- Characters taken on SRXD, one after the other; the first is lost if its reception was in progress at a reset (R179, R186). -/
def takeChars (run : LineRun) (s : State) : State :=
  if run.chars.isEmpty then s
  else
    let given := if s.lineDrop then run.chars.drop 1 else run.chars
    let all := heldChars s.rx ++ given
    restartLineGap (hunt run.outside all.length all { s with lineStart := false, lineDrop := false })

/-- Whether the receiver is in FRAME. -/
def inFrame (s : State) : Bool :=
  match s.rx with
  | .hunt => false
  | .frame _ => true

/-- Whether the gap limit expires now: more than 20 ms of silence within a frame (R180). -/
def lineGapDue (s : State) : Bool :=
  inFrame s && timerDue s.elapsed (s.lineGap.map (· + (Config.gapLimit + 1)))

/-- The gap limit's expiry: the frame is abandoned and counted, and its bytes are not examined again (R180). -/
def lineGapExpires (s : State) : State := if lineGapDue s then badFrameCounted (lineHunt s) else s

/-- The start bit of a system line character: in FRAME it stops the gap limit until the character is taken (R180). A character
that a reset found in progress is over when the next one starts (R186). -/
def lineStartBit (s : State) : State := { s with lineStart := true, lineDrop := false, lineGap := none }

/-- The last stop bit of the oldest reply sent: its frame leaves the holding area, and the next reply begins (R181, R183). -/
def replyLeaves (s : State) : State := { s with area := s.area.drop 1 }

/-- The reply that the transmitter is sending: the oldest held frame's (R181, R183). -/
def sending (s : State) : Option (List Byte) := s.area.head?.map HeldFrame.reply

/-- Whether STXD rests high: the transmitter has no byte to send (R177, Table 10-2; log entries 15 and 23). -/
def stxdRestsHigh (s : State) : Bool := (sending s).isNone

/-! ### Resets (R186, R187) -/

/-- A lane section at power-on reset; its input pins, and a scanner character that is in progress on a line, are the
outside's and stay as they are (log entries 10 and 11). -/
def resetLaneSection (L : Lane) : Lane :=
  { lineLevel := L.lineLevel, lineAttached := L.lineAttached, contacts := L.contacts
    drawer := { dsense := L.drawer.dsense }
    portA := { charStart := L.portA.charStart }, portB := { charStart := L.portB.charStart } }

/-- The part acting as at power-on reset, the straps read (R186, R187). The queue of waiting commands is not the part's; a
system line character in progress is lost, and stays so through a second reset (R186). -/
def resetAll (straps : BitVec 2) (s : State) : State :=
  let fresh : State :=
    { pending := s.pending, inhibit := s.inhibit, straps := straps, rate := straps, lineStart := s.lineStart, lineDrop := s.lineStart }
  { fresh with lanes := s.lanes.map resetLaneSection }

/-- Whether an armed RESET_DEVICE acts now: its reply, the last of all, has left the line (R186). -/
def resetDue (s : State) : Bool := s.resetArmed && s.area.isEmpty

/-- RESET_DEVICE acting, when its reply has been sent (R186). -/
def resetActs (straps : BitVec 2) (s : State) : State := if resetDue s then resetAll straps s else s

end Sys2Proof.Machine
end

