-- ==== Sys2Proof/Machine/Commands.lean ====
section
/-! DEFINITION. The meaning of each command: its effect by the rules of its chapter, and the outputs re-evaluated at the
end of the event (R74, R169; log entry 13). Every command answers a next state. -/

namespace Sys2Proof.Machine

/-- What a command does answers a next state, its outputs judged at the end of the event. -/
def done (s : State) : Host.Outcome State Fault Refusal := .next (settle s)

/-- LANE_CONFIG (R7). -/
def execLaneConfig (body : List Byte) (s : State) : Host.Outcome State Fault Refusal :=
  done (frameCompletes serveLaneConfig 0x10 body s)

/-- START (R2). -/
def execStart (body : List Byte) (s : State) : Host.Outcome State Fault Refusal :=
  done (frameCompletes serveStart 0x11 body s)

/-- STOP (R3). -/
def execStop (body : List Byte) (s : State) : Host.Outcome State Fault Refusal :=
  done (frameCompletes serveStop 0x12 body s)

/-- RESET_LANE (R5). -/
def execResetLane (body : List Byte) (s : State) : Host.Outcome State Fault Refusal :=
  done (frameCompletes serveResetLane 0x13 body s)

/-- LINES_SET (R13). -/
def execLinesSet (body : List Byte) (s : State) : Host.Outcome State Fault Refusal :=
  done (frameCompletes serveLinesSet 0x14 body s)

/-- LINES_DIR (R14). -/
def execLinesDir (body : List Byte) (s : State) : Host.Outcome State Fault Refusal :=
  done (frameCompletes serveLinesDir 0x15 body s)

/-- LINES_READ, with what the outside gives the pins when it is served (R16). -/
def execLinesRead (frame : LineFrame) (s : State) : Host.Outcome State Fault Refusal :=
  done (frameCompletes (serveLinesRead frame.outside) 0x16 frame.body s)

/-- KEYMAP_WRITE (R40). -/
def execKeymapWrite (body : List Byte) (s : State) : Host.Outcome State Fault Refusal :=
  done (frameCompletes serveKeymapWrite 0x20 body s)

/-- KEYMAP_READ (R42). -/
def execKeymapRead (body : List Byte) (s : State) : Host.Outcome State Fault Refusal :=
  done (frameCompletes serveKeymapRead 0x21 body s)

/-- PORT_CONFIG (R57). -/
def execPortConfig (body : List Byte) (s : State) : Host.Outcome State Fault Refusal :=
  done (frameCompletes servePortConfig 0x28 body s)

/-- SCANNER_SEND (R81). -/
def execScannerSend (body : List Byte) (s : State) : Host.Outcome State Fault Refusal :=
  done (frameCompletes serveScannerSend 0x29 body s)

/-- FILTER_CONFIG (R94). -/
def execFilterConfig (body : List Byte) (s : State) : Host.Outcome State Fault Refusal :=
  done (frameCompletes serveFilterConfig 0x30 body s)

/-- SYMBOLOGY_WRITE (R93). -/
def execSymbologyWrite (body : List Byte) (s : State) : Host.Outcome State Fault Refusal :=
  done (frameCompletes serveSymbologyWrite 0x31 body s)

/-- FORGET (R112). -/
def execForget (body : List Byte) (s : State) : Host.Outcome State Fault Refusal :=
  done (frameCompletes serveForget 0x32 body s)

/-- FETCH (R134). -/
def execFetch (body : List Byte) (s : State) : Host.Outcome State Fault Refusal :=
  done (frameCompletes serveFetch 0x38 body s)

/-- PURGE (R136). -/
def execPurge (body : List Byte) (s : State) : Host.Outcome State Fault Refusal :=
  done (frameCompletes servePurge 0x39 body s)

/-- DRAWER_CONFIG (R142). -/
def execDrawerConfig (body : List Byte) (s : State) : Host.Outcome State Fault Refusal :=
  done (frameCompletes serveDrawerConfig 0x40 body s)

/-- KICK (R147). -/
def execKick (body : List Byte) (s : State) : Host.Outcome State Fault Refusal :=
  done (frameCompletes serveKick 0x41 body s)

/-- STATUS (R164). -/
def execStatus (body : List Byte) (s : State) : Host.Outcome State Fault Refusal :=
  done (frameCompletes serveStatus 0x48 body s)

/-- ACK_FLAGS (R166). -/
def execAckFlags (body : List Byte) (s : State) : Host.Outcome State Fault Refusal :=
  done (frameCompletes serveAckFlags 0x49 body s)

/-- ATTN_MASK (R168). -/
def execAttnMask (body : List Byte) (s : State) : Host.Outcome State Fault Refusal :=
  done (frameCompletes serveAttnMask 0x4A body s)

/-- CLEAR_FAULT (R172). -/
def execClearFault (body : List Byte) (s : State) : Host.Outcome State Fault Refusal :=
  done (frameCompletes serveClearFault 0x4B body s)

/-- LATCH_COUNTERS (R174). -/
def execLatchCounters (body : List Byte) (s : State) : Host.Outcome State Fault Refusal :=
  done (frameCompletes serveLatchCounters 0x4C body s)

/-- READ_COUNTERS (R175). -/
def execReadCounters (body : List Byte) (s : State) : Host.Outcome State Fault Refusal :=
  done (frameCompletes serveReadCounters 0x4D body s)

/-- CLEAR_COUNTERS (R176). -/
def execClearCounters (body : List Byte) (s : State) : Host.Outcome State Fault Refusal :=
  done (frameCompletes serveClearCounters 0x4E body s)

/-- IDENTIFY (R184). -/
def execIdentify (body : List Byte) (s : State) : Host.Outcome State Fault Refusal :=
  done (frameCompletes serveIdentify 0x01 body s)

/-- GET_TIME (R184). -/
def execGetTime (body : List Byte) (s : State) : Host.Outcome State Fault Refusal :=
  done (frameCompletes serveGetTime 0x02 body s)

/-- SET_TIME (R185). -/
def execSetTime (body : List Byte) (s : State) : Host.Outcome State Fault Refusal :=
  done (frameCompletes serveSetTime 0x03 body s)

/-- RESET_DEVICE (R186). -/
def execResetDevice (body : List Byte) (s : State) : Host.Outcome State Fault Refusal :=
  done (frameCompletes serveResetDevice 0x04 body s)

/-- UNKNOWN_KIND: a good frame whose kind byte names no request (R182). -/
def execUnknownKind (kind : Byte) (frame : LineFrame) (s : State) : Host.Outcome State Fault Refusal :=
  done (frameCompletes (requestOf frame.outside kind) kind frame.body s)

/-- BAD_FRAME: the characters received on SRXD that the receiver takes, the last of which shows a frame
  to be bad (R179). Log entry 7. -/
def execBadFrame (run : LineRun) (s : State) : Host.Outcome State Fault Refusal :=
  done (takeChars run s)

/-- GAP_LIMIT_EXPIRY (R180). -/
def execGapLimitExpiry (s : State) : Host.Outcome State Fault Refusal :=
  done (lineGapExpires s)

/-- INBOUND_OVERRUN: a good frame that finds the holding area full (R181). -/
def execInboundOverrun (kind : Byte) (frame : LineFrame) (s : State) : Host.Outcome State Fault Refusal :=
  done (frameCompletes (requestOf frame.outside kind) kind frame.body s)

/-- FRAME_DISCARDED_AT_RESET: a good frame between a served RESET_DEVICE and the reset (R186). -/
def execFrameDiscardedAtReset (kind : Byte) (frame : LineFrame) (s : State) : Host.Outcome State Fault Refusal :=
  done (frameCompletes (requestOf frame.outside kind) kind frame.body s)

/-- REPLY_SENT (R181). -/
def execReplySent (s : State) : Host.Outcome State Fault Refusal :=
  done (replyLeaves s)

/-- RESET_DEVICE_ACTS, with the strap levels read (R186). -/
def execResetDeviceActs (straps : BitVec 2) (s : State) : Host.Outcome State Fault Refusal :=
  done (resetActs straps s)

/-- POWER_ON_RESET, with the strap levels read (R187). -/
def execPowerOnReset (straps : BitVec 2) (s : State) : Host.Outcome State Fault Refusal :=
  done (resetAll straps s)

/-- SAMPLE_PASS_END: bit p of `closed` is set when the columns read position p closed (R19, R20). -/
def execSamplePassEnd (l : LaneId) (closed : BitVec 128) (s : State) : Host.Outcome State Fault Refusal :=
  done (samplePass l closed s)

/-- SCANNER_CHARACTER_RECEIVED (R64). -/
def execScannerCharacterReceived (l : LaneId) (p : PortId) (c : ScanChar) (s : State) : Host.Outcome State Fault Refusal :=
  done (receiveChar l p c s)

/-- GAP_TIMER_EXPIRY (R66). -/
def execGapTimerExpiry (l : LaneId) (p : PortId) (s : State) : Host.Outcome State Fault Refusal :=
  done (gapExpires l p s)

/-- GROWTH_REPORT (R132). -/
def execGrowthReport (l : LaneId) (s : State) : Host.Outcome State Fault Refusal :=
  done (takeGrowth l s)

/-- TRANSMIT_BYTE_SENT (R76). -/
def execTransmitByteSent (l : LaneId) (p : PortId) (s : State) : Host.Outcome State Fault Refusal :=
  done (s.modPort l p (byteSent s.elapsed))

/-- REPLY_TIMER_EXPIRY (R86). -/
def execReplyTimerExpiry (l : LaneId) (p : PortId) (s : State) : Host.Outcome State Fault Refusal :=
  done (replyExpires l p s)

/-- RAW_SENSOR_CHANGE: the DSENSE pin moves to the level given (R145). -/
def execRawSensorChange (l : LaneId) (high : Bool) (s : State) : Host.Outcome State Fault Refusal :=
  done (senseLevel l high s)

/-- DEBOUNCED_CHANGE (R145). -/
def execDebouncedChange (l : LaneId) (s : State) : Host.Outcome State Fault Refusal :=
  done (takeDebounced l s)

/-- PULSE_TIMER_EXPIRY (R149). -/
def execPulseTimerExpiry (l : LaneId) (s : State) : Host.Outcome State Fault Refusal :=
  done (pulseExpires l s)

/-- RETRY_TIMER_EXPIRY (R150). -/
def execRetryTimerExpiry (l : LaneId) (s : State) : Host.Outcome State Fault Refusal :=
  done (retryExpires l s)

/-- OPEN_TIMER_EXPIRY (R154). -/
def execOpenTimerExpiry (l : LaneId) (s : State) : Host.Outcome State Fault Refusal :=
  done (openExpires l s)

/-- INH_N_ASSERTED: the lanes in the order in which the assertion reaches their Drawer Controllers; the
  lanes not named follow in number order (R156, log entry 14). -/
def execInhNAsserted (order : List LaneId) (s : State) : Host.Outcome State Fault Refusal :=
  done (assertInhibit order s)

/-- INH_N_RELEASED (R157). -/
def execInhNReleased (s : State) : Host.Outcome State Fault Refusal :=
  done ({ s with inhibit := false })

/-- SCANNER_START_BIT (R66). -/
def execScannerStartBit (l : LaneId) (p : PortId) (s : State) : Host.Outcome State Fault Refusal :=
  done (s.modPort l p startBit)

/-- SYSTEM_LINE_START_BIT (R180). -/
def execSystemLineStartBit (s : State) : Host.Outcome State Fault Refusal :=
  done (lineStartBit s)

end Sys2Proof.Machine
end

