-- ==== Sys2Proof/Machine/Dispatch.lean ====
section
/-! DEFINITION. The meaning of every command, one arm per constructor of Instr. -/

namespace Sys2Proof.Machine

def exec (i : Instr) (s : State) : Host.Outcome State Fault Refusal :=
  match i with
  | .laneConfig body => Sys2Proof.Machine.execLaneConfig body s
  | .start body => Sys2Proof.Machine.execStart body s
  | .stop body => Sys2Proof.Machine.execStop body s
  | .resetLane body => Sys2Proof.Machine.execResetLane body s
  | .linesSet body => Sys2Proof.Machine.execLinesSet body s
  | .linesDir body => Sys2Proof.Machine.execLinesDir body s
  | .linesRead frame => Sys2Proof.Machine.execLinesRead frame s
  | .keymapWrite body => Sys2Proof.Machine.execKeymapWrite body s
  | .keymapRead body => Sys2Proof.Machine.execKeymapRead body s
  | .portConfig body => Sys2Proof.Machine.execPortConfig body s
  | .scannerSend body => Sys2Proof.Machine.execScannerSend body s
  | .filterConfig body => Sys2Proof.Machine.execFilterConfig body s
  | .symbologyWrite body => Sys2Proof.Machine.execSymbologyWrite body s
  | .forget body => Sys2Proof.Machine.execForget body s
  | .fetch body => Sys2Proof.Machine.execFetch body s
  | .purge body => Sys2Proof.Machine.execPurge body s
  | .drawerConfig body => Sys2Proof.Machine.execDrawerConfig body s
  | .kick body => Sys2Proof.Machine.execKick body s
  | .status body => Sys2Proof.Machine.execStatus body s
  | .ackFlags body => Sys2Proof.Machine.execAckFlags body s
  | .attnMask body => Sys2Proof.Machine.execAttnMask body s
  | .clearFault body => Sys2Proof.Machine.execClearFault body s
  | .latchCounters body => Sys2Proof.Machine.execLatchCounters body s
  | .readCounters body => Sys2Proof.Machine.execReadCounters body s
  | .clearCounters body => Sys2Proof.Machine.execClearCounters body s
  | .identify body => Sys2Proof.Machine.execIdentify body s
  | .getTime body => Sys2Proof.Machine.execGetTime body s
  | .setTime body => Sys2Proof.Machine.execSetTime body s
  | .resetDevice body => Sys2Proof.Machine.execResetDevice body s
  | .unknownKind kind frame => Sys2Proof.Machine.execUnknownKind kind frame s
  | .badFrame run => Sys2Proof.Machine.execBadFrame run s
  | .gapLimitExpiry => Sys2Proof.Machine.execGapLimitExpiry s
  | .inboundOverrun kind frame => Sys2Proof.Machine.execInboundOverrun kind frame s
  | .frameDiscardedAtReset kind frame => Sys2Proof.Machine.execFrameDiscardedAtReset kind frame s
  | .replySent => Sys2Proof.Machine.execReplySent s
  | .resetDeviceActs straps => Sys2Proof.Machine.execResetDeviceActs straps s
  | .powerOnReset straps => Sys2Proof.Machine.execPowerOnReset straps s
  | .samplePassEnd lane closed => Sys2Proof.Machine.execSamplePassEnd lane closed s
  | .scannerCharacterReceived lane port char => Sys2Proof.Machine.execScannerCharacterReceived lane port char s
  | .gapTimerExpiry lane port => Sys2Proof.Machine.execGapTimerExpiry lane port s
  | .growthReport lane => Sys2Proof.Machine.execGrowthReport lane s
  | .transmitByteSent lane port => Sys2Proof.Machine.execTransmitByteSent lane port s
  | .replyTimerExpiry lane port => Sys2Proof.Machine.execReplyTimerExpiry lane port s
  | .rawSensorChange lane high => Sys2Proof.Machine.execRawSensorChange lane high s
  | .debouncedChange lane => Sys2Proof.Machine.execDebouncedChange lane s
  | .pulseTimerExpiry lane => Sys2Proof.Machine.execPulseTimerExpiry lane s
  | .retryTimerExpiry lane => Sys2Proof.Machine.execRetryTimerExpiry lane s
  | .openTimerExpiry lane => Sys2Proof.Machine.execOpenTimerExpiry lane s
  | .inhNAsserted order => Sys2Proof.Machine.execInhNAsserted order s
  | .inhNReleased => Sys2Proof.Machine.execInhNReleased s
  | .scannerStartBit lane port => Sys2Proof.Machine.execScannerStartBit lane port s
  | .systemLineStartBit => Sys2Proof.Machine.execSystemLineStartBit s

end Sys2Proof.Machine
end

