-- ==== Sys2Proof/Machine/TimeBase.lean ====
section
/-! DEFINITION. The time base of the part (R18, R55, R185): the commands that the passing of time brings, and the
step of the idle part. Log entries 1 and 2. -/

namespace Sys2Proof.Machine

/-- A command listed when its condition holds. -/
def onlyIf (c : Bool) (i : Instr) : List Instr := if c then [i] else []

/-- The commands of one port whose time has been reached: gap timer (R66) and reply timer (R86). -/
def duePort (s : State) (l : LaneId) (p : PortId) : List Instr :=
  onlyIf (gapDue s l p) (.gapTimerExpiry l p) ++ onlyIf (replyDue s l p) (.replyTimerExpiry l p)

/-- The commands of one lane that the part itself brings about now: a growth report (R132), the end of a sample pass
(R18), the timers of its ports, and those of its drawer (R145, R149, R150, R154). DESIGN CHOICE, unsafe: the pass queued here reads
the contacts as the outside last gave them, with no crossing that reads closed through other closed keys alone (section 2.3); a
sender's own SAMPLE_PASS_END gives any raw closed set (log entries 12 and 35). -/
def dueLane (s : State) (l : LaneId) : List Instr :=
  onlyIf (s.lane l).growth (.growthReport l) ++
  onlyIf (passDue s l) (.samplePassEnd l (s.lane l).contacts) ++
  duePort s l .A ++ duePort s l .B ++
  onlyIf (debouncedChangeDue s l) (.debouncedChange l) ++
  onlyIf (pulseDue s l) (.pulseTimerExpiry l) ++
  onlyIf (retryDue s l) (.retryTimerExpiry l) ++
  onlyIf (openDue s l) (.openTimerExpiry l)

/-- The commands that the part itself brings about now, in the order in which the model takes those of one moment
(log entry 2): the reset of a RESET_DEVICE (R186), the gap limit (R180), then the lanes in number order. DESIGN CHOICE: the reset
queued here reads the strap levels that the last reset read; a sender's own RESET_DEVICE_ACTS may give any (log entry 31). -/
def dueEvents (s : State) : List Instr :=
  onlyIf (resetDue s) (.resetDeviceActs s.straps) ++ onlyIf (lineGapDue s) .gapLimitExpiry ++
  dueLane s 0 ++ dueLane s 1 ++ dueLane s 2 ++ dueLane s 3

/-- One millisecond passing: the Device Clock, which wraps (R185), and the elapsed-time count advance. -/
def tick (s : State) : State := { s with clock := s.clock + 1, elapsed := s.elapsed + 1 }

/-- Whether some lane's pass has a row left to drive (R19). -/
def rowsLeft (s : State) : Bool := rowLeft s 0 || rowLeft s 1 || rowLeft s 2 || rowLeft s 3

/-- The part with no command waiting: the rows of the passes that end now take their turns, then it queues what is due, and
lets a millisecond pass when nothing is. -/
def idle (s : State) : State :=
  if rowsLeft s then driveRows s
  else if (dueEvents s).isEmpty then tick s
  else { s with pending := dueEvents s }

end Sys2Proof.Machine
end

