-- ==== Sys2Proof/Machine/Kinds.lean ====
section
/-! DEFINITION. The kind bytes of the requests (Table 11-3). -/

namespace Sys2Proof.Machine

/-- The kind byte of the request a command is, and its body (Table 11-3); `none` for an event. -/
def requestFrame : Instr → Option (Byte × List Byte)
  | .identify b => some (0x01, b)
  | .getTime b => some (0x02, b)
  | .setTime b => some (0x03, b)
  | .resetDevice b => some (0x04, b)
  | .laneConfig b => some (0x10, b)
  | .start b => some (0x11, b)
  | .stop b => some (0x12, b)
  | .resetLane b => some (0x13, b)
  | .linesSet b => some (0x14, b)
  | .linesDir b => some (0x15, b)
  | .linesRead f => some (0x16, f.body)
  | .keymapWrite b => some (0x20, b)
  | .keymapRead b => some (0x21, b)
  | .portConfig b => some (0x28, b)
  | .scannerSend b => some (0x29, b)
  | .filterConfig b => some (0x30, b)
  | .symbologyWrite b => some (0x31, b)
  | .forget b => some (0x32, b)
  | .fetch b => some (0x38, b)
  | .purge b => some (0x39, b)
  | .drawerConfig b => some (0x40, b)
  | .kick b => some (0x41, b)
  | .status b => some (0x48, b)
  | .ackFlags b => some (0x49, b)
  | .attnMask b => some (0x4A, b)
  | .clearFault b => some (0x4B, b)
  | .latchCounters b => some (0x4C, b)
  | .readCounters b => some (0x4D, b)
  | .clearCounters b => some (0x4E, b)
  | .unknownKind k f => some (k, f.body)
  | .inboundOverrun k f => some (k, f.body)
  | .frameDiscardedAtReset k f => some (k, f.body)
  | .badFrame _ => none
  | .gapLimitExpiry => none
  | .replySent => none
  | .resetDeviceActs _ => none
  | .powerOnReset _ => none
  | .samplePassEnd _ _ => none
  | .scannerCharacterReceived _ _ _ => none
  | .gapTimerExpiry _ _ => none
  | .growthReport _ => none
  | .transmitByteSent _ _ => none
  | .replyTimerExpiry _ _ => none
  | .rawSensorChange _ _ => none
  | .debouncedChange _ => none
  | .pulseTimerExpiry _ => none
  | .retryTimerExpiry _ => none
  | .openTimerExpiry _ => none
  | .inhNAsserted _ => none
  | .inhNReleased => none
  | .scannerStartBit _ _ => none
  | .systemLineStartBit => none

/-- The kind bytes that name a request (Table 11-3). -/
def knownKinds : List Byte :=
  [0x01, 0x02, 0x03, 0x04, 0x10, 0x11, 0x12, 0x13, 0x14, 0x15, 0x16, 0x20, 0x21, 0x28, 0x29, 0x30, 0x31,
   0x32, 0x38, 0x39, 0x40, 0x41, 0x48, 0x49, 0x4A, 0x4B, 0x4C, 0x4D, 0x4E]

end Sys2Proof.Machine
end

