-- ==== Sys2Proof/Safety.lean ====
section
/-! DEFINITION. The laws that the HZ-416 keeps at every moment, as the spec states them, and the words in which
the statements speak of a request received and answered. -/

namespace Sys2Proof.Machine

/-! ### The laws -/

/-- The law of the Event Store (R121, with the reserve sum of R119): no lane above its cap, the shared use within the shared
part, and the pool not exceeded. -/
def StoreLaw (s : State) : Prop :=
  (∀ l : LaneId, occupancy (s.lane l) ≤ (s.lane l).cfg.cap) ∧
    sumLanes (fun L => L.cfg.reserve) s ≤ 512 ∧
    sumLanes sharedUse s ≤ 512 - sumLanes (fun L => L.cfg.reserve) s ∧
    sumLanes occupancy s ≤ 512

/-- The store-high states are those of R129 for the headrooms as they stand: on below the hold margin, off at the margin plus
the hysteresis. -/
def HighLaw (s : State) : Prop :=
  ∀ l : LaneId,
    (headroom s l < (s.lane l).cfg.margin → (s.lane l).storeHigh = true) ∧
      ((s.lane l).cfg.margin + (s.lane l).cfg.hysteresis ≤ headroom s l → (s.lane l).storeHigh = false)

/-- A port's HOLD output is asserted exactly while one of the five conditions of R73 holds. -/
def HoldRight (L : Lane) (P : Port) : Prop :=
  P.hold = true ↔
    L.run ≠ .running ∨ P.cfg.enabled = false ∨ P.slot ≠ none ∨ L.storeHigh = true ∨ scanAllowed L = false

/-- The outputs are right: every HOLD output (R73), and ATTN asserted exactly while some scope has a flag that is both set
and enabled (R169). -/
def OutputLaw (s : State) : Prop :=
  (∀ l : LaneId, HoldRight (s.lane l) (s.lane l).portA ∧ HoldRight (s.lane l) (s.lane l).portB) ∧
    (s.attn = true ↔
      deviceFlags s &&& s.deviceEnable ≠ 0 ∨ ∃ l : LaneId, laneFlags (s.lane l) &&& (s.lane l).enable ≠ 0)

/-- One Drawer Controller's law (R141), with INH_N: the output is on in KICK_PULSE alone; nothing kicks while INH_N is asserted;
outside a kick no try is used and both kick timers are stopped; the open timer is stopped outside OPEN. -/
def DrawerRight (inhibit : Bool) (D : Drawer) : Prop :=
  (D.kick = true ↔ D.st = .kickPulse) ∧
    (inhibit = true → D.st ≠ .kickPulse ∧ D.st ≠ .kickWait) ∧
    (D.st ≠ .kickPulse → D.st ≠ .kickWait → D.tries = 0 ∧ D.pulse = none ∧ D.retry = none) ∧
    (D.st ≠ .opened → D.openTimer = .stopped)

/-- The drawer law of every lane (R141), a READY lane's drawer being in SETTLING (R1). -/
def DrawerLaw (s : State) : Prop :=
  ∀ l : LaneId, DrawerRight s.inhibit (s.lane l).drawer ∧
    ((s.lane l).run = .ready → (s.lane l).drawer.st = .settling)

/-- A port of a READY lane: its receiver ignores the line with nothing held, its slot and transmit queue are empty, and it
expects nothing (R1, R59, R77, R91). -/
def PortAtRest (P : Port) : Prop :=
  P.rx = .ignoring ∧ P.buf = [] ∧ P.gap = none ∧ P.slot = none ∧ P.txq = [] ∧ P.expect = .idle ∧ P.replyTimer = none

/-- What R1 says of a READY lane: no passes, every position UP, no held key, no repeat, lock position NONE, ports at rest, and
the drawer in SETTLING, unwatched, with its output off. -/
def ReadyLaw (s : State) : Prop :=
  ∀ l : LaneId, (s.lane l).run = .ready →
    (s.lane l).passTimer = none ∧ (s.lane l).rowTurn = none ∧ (s.lane l).keys = Vector.replicate 128 .up ∧
      (s.lane l).ghost = false ∧
      (s.lane l).held = [] ∧ (s.lane l).repeating = none ∧ (s.lane l).lock = .noLock ∧
      PortAtRest (s.lane l).portA ∧ PortAtRest (s.lane l).portB ∧
      (s.lane l).drawer.st = .settling ∧ (s.lane l).drawer.kick = false ∧ (s.lane l).drawer.measure = none

/-- A row in its turn is a row of the geometry of a RUNNING lane, so one that the keyboard owns (R12, R19). -/
def RowLaw (s : State) : Prop :=
  ∀ (l : LaneId) (r : Nat), (s.lane l).rowTurn = some r → (s.lane l).run = .running ∧ r < (s.lane l).cfg.rows

/-- Whether a debounce state is that of a key still held (R28, R30). -/
def heldState : KeyState → Bool
  | .down | .releasePending _ => true
  | .up | .pressPending _ _ => false

/-- The held-key list holds one entry for each position whose press has been handed over and whose release has not (R43), and
the counted keys never exceed the rollover limit (R30). -/
def HeldLaw (s : State) : Prop :=
  ∀ l : LaneId,
    ((s.lane l).held.map HeldKey.pos).Nodup ∧
      (∀ h ∈ (s.lane l).held, h.pos < 128 ∧ heldState (keyAt (s.lane l) h.pos) = true) ∧
      (∀ p : Fin 128, heldState (keyAt (s.lane l) p.val) = true → ∃ h ∈ (s.lane l).held, h.pos = p.val) ∧
      rolloverCount (s.lane l) ≤ (s.lane l).cfg.rollover

/-- The law of the recent-code tables (R108): at most 8 entries, no two with equal code bytes. -/
def RecentLaw (s : State) : Prop :=
  ∀ l : LaneId, (s.lane l).recent.length ≤ 8 ∧ ((s.lane l).recent.map RecentEntry.code).Nodup

/-- The law of the Fault Records (R170, R171): an unlocked record is zeroed, and no further count exceeds 255. -/
def FaultLaw (s : State) : Prop :=
  ∀ l : LaneId, (s.lane l).fault.further ≤ 255 ∧ ((s.lane l).fault.locked = false → (s.lane l).fault = {})

/-- A port's buffers within their sizes: 48 code bytes in assembly (R64), 1 to 48 in the slot (R70), 8 in the transmit queue
(R75). -/
def PortFits (P : Port) : Prop :=
  P.buf.length ≤ 48 ∧ (∀ r ∈ P.slot, 1 ≤ r.code.length ∧ r.code.length ≤ 48) ∧ P.txq.length ≤ 8

/-- Every buffer and saturating count within its size: the ports, the pending-loss counts (R125), the slots of every stored
record (R115), the holding area (R181), and the two link counts (R179, R181). -/
def SizeLaw (s : State) : Prop :=
  (∀ l : LaneId, PortFits (s.lane l).portA ∧ PortFits (s.lane l).portB ∧ (s.lane l).lost ≤ 255 ∧
    ∀ r ∈ (s.lane l).queue, 1 ≤ recordSlots r.body ∧ recordSlots r.body ≤ 4) ∧
    s.area.length ≤ 2 ∧ s.badFrames ≤ 65535 ∧ s.overruns ≤ 65535

/-- A lane configuration within Table 1-7, its reserve at most its cap (R8). -/
def LaneInRange (c : LaneConfig) : Prop :=
  c.rows ≤ 8 ∧ 1 ≤ c.cols ∧ c.cols ≤ 16 ∧ 1 ≤ c.period ∧ c.period ≤ 10 ∧ 1 ≤ c.pressCount ∧ c.pressCount ≤ 8 ∧
    1 ≤ c.releaseCount ∧ c.releaseCount ≤ 8 ∧ 1 ≤ c.rollover ∧ c.rollover ≤ 8 ∧ 10 ≤ c.typeDelay ∧ c.typeDelay ≤ 255 ∧
    2 ≤ c.typeInterval ∧ c.typeInterval ≤ 255 ∧ c.reserve ≤ 256 ∧ 16 ≤ c.cap ∧ c.cap ≤ 512 ∧ c.reserve ≤ c.cap ∧
    1 ≤ c.margin ∧ c.margin ≤ 64 ∧ c.hysteresis ≤ 64

/-- The timing fields of a drawer within Table 8-1, the retry period longer than the kick width (R142, R150). -/
def TimingInRange (t : Timing) : Prop :=
  20 ≤ t.width ∧ t.width ≤ 250 ∧ 100 ≤ t.retryPeriod ∧ t.retryPeriod ≤ 2000 ∧ t.width < t.retryPeriod ∧
    1 ≤ t.maxTries ∧ t.maxTries ≤ 4 ∧ (t.alarm = 0 ∨ 5 ≤ t.alarm ∧ t.alarm ≤ 600)

/-- The times of a port configuration within Table 4-2. -/
def PortInRange (c : PortConfig) : Prop :=
  c.rate ≤ 7 ∧ (c.gapTimeout = 0 ∨ 5 ≤ c.gapTimeout ∧ c.gapTimeout ≤ 255) ∧ 1 ≤ c.replyTimeout ∧ c.replyTimeout ≤ 255

/-- A Symbology Table entry within R92. -/
def SymInRange (e : SymEntry) : Prop := 1 ≤ e.minLen ∧ e.minLen ≤ e.maxLen ∧ e.maxLen ≤ 47

/-- Every setting within its range (Tables 1-7, 4-2, 8-1, R92, R94). -/
def RangeLaw (s : State) : Prop :=
  (∀ l : LaneId, LaneInRange (s.lane l).cfg ∧ PortInRange (s.lane l).portA.cfg ∧ PortInRange (s.lane l).portB.cfg ∧
    TimingInRange (s.lane l).drawer.staged ∧ TimingInRange (s.lane l).drawer.active ∧
    5 ≤ (s.lane l).drawer.debounce ∧ (s.lane l).drawer.debounce ≤ 100) ∧
    (∀ i : Fin 8, SymInRange s.symbology[i]) ∧ s.sameWindow ≤ 5000 ∧ s.crossWindow ≤ 5000

/-! ### A request received and answered (R179, R181, R183) -/

/-- A good frame that completes now is served: no RESET_DEVICE waits to act, and the holding area has room (R181, R186). -/
def Serves (s : State) : Prop := s.resetArmed = false ∧ s.area.length < 2

/-- The part when a good frame has been received: its receiver hunts, with nothing held (R179). -/
def received (s : State) : State :=
  { s with rx := .hunt, lineGap := none, lineStart := false, lineDrop := false }

/-- The part at the end of a served request's event: the frame in the holding area with its reply, of the request's kind plus
80h, formed (R181, R183), and the outputs judged (R74, R169). -/
def replied (kind : Byte) (body reply : List Byte) (s : State) : State :=
  settle { s with area := s.area ++ [{ kind := kind, body := body, reply := frameBytes (kind + 0x80) reply }] }

/-- The byte of a lane field. -/
def laneByte (l : LaneId) : Byte := byteOf l.val

/-- A request refused with a result: the frame answered with that result alone, and nothing else of the part changed
(R182, R183). -/
def RefusedAs (i : Instr) (code : Byte) (s : State) : Prop :=
  ∃ k b, requestFrame i = some (k, b) ∧ exec i s = .next (replied k b [code] (received s))

/-- The lane and length judgements of a request that takes lanes 0 to 3 and has a body of n bytes, lane first (R188): BAD_LANE
for any other lane number, and BAD_LENGTH for any other length. -/
def LaneJudged (request : List Byte → Instr) (n : Nat) : Prop :=
  ∀ s : State, Serves s →
    (∀ (b : Byte) (rest : List Byte), 4 ≤ b.toNat → RefusedAs (request (b :: rest)) 0x02 s) ∧
      RefusedAs (request []) 0x03 s ∧
      ∀ (l : LaneId) (rest : List Byte), rest.length + 1 ≠ n → RefusedAs (request (laneByte l :: rest)) 0x03 s

/-- A good frame of the system line as the characters that carry it (R178). -/
def frameChars (kind : Byte) (body : List Byte) : List LineChar :=
  (frameBytes kind body).map fun b => { value := b, damaged := false }

end Sys2Proof.Machine
end

