-- ==== Sys2Proof/Certificates/Slice0/Obligations.lean ====
section
/-! DEFINITION. The statements for the provers, from the spec's rules. Where a title names a log entry, the statement rests on
that choice of the model. -/

open Sys2Proof Sys2Proof.Machine

namespace Sys2Proof.Claims

/-! Words of the statements: effects that more than one statement names. -/

/-- A scanner port at START (R2, R61, Table 4-5): everything held is emptied, an enabled port hunts, and a character whose start
bit has been seen is to be discarded. A byte in transmission goes on, unmarked. -/
def startedPort (P : Port) : Port :=
  { P with
    rx := if P.cfg.enabled then .hunt else .ignoring
    buf := [], damaged := false, firstDamaged := false, lineFault := false, gap := none, slot := none, txq := []
    tx := P.tx.map fun t => { t with last := false }
    expect := .idle, replyTimer := none, charDrop := P.charStart }

/-- A scanner port at STOP and RESET_LANE (R3, R77, R91, Table 4-5). -/
def stoppedPort (P : Port) : Port :=
  { P with
    rx := .ignoring, buf := [], damaged := false, firstDamaged := false, lineFault := false, gap := none, slot := none
    txq := [], tx := P.tx.map fun t => { t with last := false }, expect := .idle, replyTimer := none }

/-- A drawer that STOP or RESET_LANE leaves (R143, R158). -/
def stoppedDrawer (D : Drawer) : Drawer :=
  { D with st := .settling, tries := 0, kick := false, pulse := none, retry := none, openTimer := .stopped, measure := none
           active := D.staged }

/-- A lane section at an accepted START, before LANE_START is offered (R2, steps 1 to 5). -/
def startedLane (now : Nat) (L : Lane) : Lane :=
  { L with
    run := .running, keys := Vector.replicate 128 .up, ghost := false, rowTurn := none
    passTimer := if L.cfg.rows = 0 then none else some (now + L.cfg.period)
    held := [], repeating := none, lock := if hasLockContact L then .inTransit else .noLock
    portA := startedPort L.portA, portB := startedPort L.portB
    drawer := { L.drawer with st := .settling, tries := 0, kick := false, pulse := none, retry := none
                              openTimer := .stopped, measure := some now } }

/-- A lane section at STOP with nothing to report: empty slots, and no kick (R3). -/
def stoppedLane (L : Lane) : Lane :=
  { L with
    run := .ready, keys := Vector.replicate 128 .up, ghost := false, rowTurn := none, passTimer := none, held := []
    repeating := none, lock := .noLock, portA := stoppedPort L.portA, portB := stoppedPort L.portB
    drawer := stoppedDrawer L.drawer }

/-- A lane section at RESET_LANE, before the recompute of R6 (R5). -/
def clearedLane (L : Lane) : Lane :=
  { stoppedLane L with
    queue := [], storeHigh := false, recent := [], lost := 0, fault := {}, counters := Vector.replicate 12 0
    counterLatch := none, sticky := 0, reported := 0, lastLock := none }

/-- The part after power-on reset or RESET_DEVICE: State.reset, but for the queue of waiting commands and the inputs (log entries
10 and 11). -/
def afterReset (straps : BitVec 2) (s : State) : State :=
  { State.reset with
    pending := s.pending, inhibit := s.inhibit, straps := straps, rate := straps, lineStart := s.lineStart
    lineDrop := s.lineStart
    lanes := Vector.ofFn fun l : LaneId =>
      { lineLevel := (s.lane l).lineLevel, lineAttached := (s.lane l).lineAttached, contacts := (s.lane l).contacts
        drawer := { dsense := (s.lane l).drawer.dsense }
        portA := { charStart := (s.lane l).portA.charStart }, portB := { charStart := (s.lane l).portB.charStart } } }

/-- A drawer entering SHUT (R143). -/
def shutDrawer (D : Drawer) : Drawer :=
  { D with st := .shut, tries := 0, kick := false, pulse := none, retry := none, openTimer := .stopped, active := D.staged }

/-- A drawer entering OPEN at a moment (R146, R151, R152, R153). -/
def openedDrawer (now : Nat) (paused : Bool) (D : Drawer) : Drawer :=
  { D with st := .opened, tries := 0, kick := false, pulse := none, retry := none, openMark := now, measure := none
           openTimer := if paused then .held 0 else .running 0 now }

/-- A record of a lane as it is admitted now, with the pending losses it carries (R122). -/
def stored (s : State) (l : LaneId) (b : RecBody) (f : RecFlags) : Rec :=
  { body := b, flags := f, lostBefore := (s.lane l).lost, stamp := s.clock }

/-- Whether a frame of a kind given by the command, served or not, may be one of the requests listed. -/
def mayBe (requests : List Byte) : Instr → Bool
  | .unknownKind kind _ | .inboundOverrun kind _ | .frameDiscardedAtReset kind _ => decide (kind ∈ requests)
  | .badFrame _ => true
  | _ => false

/-- The commands that may take a lane's Fault Record back: CLEAR_FAULT, RESET_LANE, the resets, and frames that can be one of the
two requests (R172). -/
def clearsFault : Instr → Bool
  | .clearFault _ | .resetLane _ | .resetDeviceActs _ | .powerOnReset _ => true
  | i => mayBe [0x4B, 0x13] i

/-- The commands that may empty a lane's counter latch: READ_COUNTERS, RESET_LANE, the resets, and frames that can be one of the
two requests (R175). -/
def emptiesLatch : Instr → Bool
  | .readCounters _ | .resetLane _ | .resetDeviceActs _ | .powerOnReset _ => true
  | i => mayBe [0x4D, 0x13] i

/-- The lane of a lane event, for the events that belong to one lane. -/
def laneOf : Instr → Option LaneId
  | .samplePassEnd l _ | .scannerCharacterReceived l _ _ | .gapTimerExpiry l _ | .growthReport l | .transmitByteSent l _
  | .replyTimerExpiry l _ | .rawSensorChange l _ | .debouncedChange l | .pulseTimerExpiry l | .retryTimerExpiry l
  | .openTimerExpiry l | .scannerStartBit l _ => some l
  | _ => none

/-- A port that is handed a tone byte: it joins the transmit queue if it is present and the queue has room, and begins at once if
nothing is in transmission (R75, R76, R113). -/
def toned (tone : OptByte) (P : Port) : Port :=
  if tone.present = true ∧ P.txq.length < 8 then beginNext { P with txq := P.txq ++ [{ value := tone.value }] } else P

/-- Whether a value is one of a port's data bits: at most 7Fh on a port of 7 data bits (R60); R58 holds every byte a port is
configured with to it. -/
def DataBits (cfg : PortConfig) (v : Byte) : Prop := cfg.sevenBits = true → v.toNat ≤ 0x7F

/-- A port's gap timer started at a moment: a gap timeout of 0 leaves it stopped (R66). -/
def gapFrom (now : Nat) (cfg : PortConfig) : Option Nat := if cfg.gapTimeout = 0 then none else some (now + cfg.gapTimeout)

/-- The damaged characters of a port's format, each with the fault it raises: a framing error, and a parity error on a port with
parity (R60, R67; log entry 17). -/
def Damages (cfg : PortConfig) (q : Quality) (kind : FaultKind) : Prop :=
  q = .framing ∧ kind = .lineFraming ∨ q = .parity ∧ cfg.parity ≠ .none ∧ kind = .lineParity

/-- A port whose byte in transmission has been sent: the oldest queued byte begins, if there is one (R76). -/
def nextByte (P : Port) : Port :=
  match P.txq with
  | [] => { P with tx := none }
  | b :: rest =>
    { P with txq := rest
             tx := some { value := if P.cfg.sevenBits then b.value &&& 0x7F else b.value, last := b.last, rate := P.cfg.rate
                          sevenBits := P.cfg.sevenBits, parity := P.cfg.parity } }

/-- Whether the record a port has collected is reply-marked: a reply mark is configured, and the first code byte is a good byte
equal to it (R69). -/
def ReplyMarked (P : Port) : Prop :=
  P.cfg.replyMark.present = true ∧ P.firstDamaged = false ∧ P.buf.head? = some P.cfg.replyMark.value

/-- A port whose record has been completed by a terminator, before the record goes on: back in HUNT with nothing held (R69). -/
def completedPort (P : Port) : Port :=
  { P with rx := .hunt, buf := [], damaged := false, firstDamaged := false, lineFault := false, gap := none
           charStart := false, charDrop := false }

/-- The other port of a lane. -/
def otherPort : PortId → PortId
  | .A => .B
  | .B => .A

/-- Whether a record r of port p comes before a record w of the other port: earlier, or at the same time at port A (R95). -/
def Before (p : PortId) (r w : SlotRecord) : Prop := r.time.toNat < w.time.toNat ∨ r.time = w.time ∧ p = .A

/-- An attempt on the head r of port p, and, once it has finished, the attempt on the other slot's record w, which is late (R97). -/
def attemptBoth (l : LaneId) (p : PortId) (r w : SlotRecord) (late : Bool) (s : State) : State :=
  let first := attemptRecord l p r late s
  if first.2 = true then (attemptRecord l (otherPort p) w true first.1).1 else first.1

/-- The values of a keymap class field (Table 11-4). -/
def classValues : List (Nat × KeyClass) :=
  [(0, .ignore), (1, .normal), (2, .shift), (3, .lockContact), (4, .drawer), (5, .clearRecent)]

/-- Whether entry j of a KEYMAP_WRITE body holds an undefined value: a class, a repeat flag, or a lock index (R40). -/
def KeymapEntryBad (body : List Byte) (j : Nat) : Prop :=
  5 < u8 body (3 + 6 * j) ∨ 1 < u8 body (8 + 6 * j) ∨ u8 body (3 + 6 * j) = 3 ∧ 5 < u16 body (4 + 6 * j)

/-- A ghost corner of a pass: a position of the geometry that makes, with another row and another column of it, four crossings of
which at least three read closed (R21). -/
def GhostCorner (cfg : LaneConfig) (closed : BitVec 128) (p : Nat) : Prop :=
  let shut := fun r c => (closed.getLsbD (r * 16 + c)).toNat
  p / 16 < cfg.rows ∧ p % 16 < cfg.cols ∧ ∃ r c, r < cfg.rows ∧ c < cfg.cols ∧ r ≠ p / 16 ∧ c ≠ p % 16 ∧
    3 ≤ shut (p / 16) (p % 16) + shut (p / 16) c + shut r (p % 16) + shut r c

/-- The minimum and maximum length that a present entry j of a SYMBOLOGY_WRITE body is stored with (R93). -/
def symLengths (body : List Byte) (j : Nat) : Nat × Nat :=
  let top := max 1 (min (u8 body (5 + 5 * j)) 47)
  (min (max 1 (min (u8 body (4 + 5 * j)) 47)) top, top)

/-- The entry that entry j of an accepted SYMBOLOGY_WRITE body is stored as (R92, R93; log entry 22 for the mark of an empty one). -/
def symStored (body : List Byte) (j : Nat) : SymEntry :=
  if u8 body (2 + 5 * j) = 0 then { present := false, mark := 0, minLen := 1, maxLen := 47, rule := .none }
  else
    { present := true, mark := body.getD (3 + 5 * j) 0, minLen := (symLengths body j).1, maxLen := (symLengths body j).2
      rule := if u8 body (6 + 5 * j) = 0 then .none else if u8 body (6 + 5 * j) = 1 then .mod10w31 else .mod10w13 }

/-- Whether the event that a command stands for is due now, for the commands that the part itself brings about: RESET_DEVICE when
its reply has been sent (R186), and the expiry of each timer that runs and whose time has been reached (R18, R66, R86, R132, R145,
R149, R150, R154, R180). -/
def DueNow (s : State) : Instr → Prop
  | .resetDeviceActs straps => straps = s.straps ∧ s.resetArmed = true ∧ s.area = []
  | .gapLimitExpiry => (∃ taken, s.rx = .frame taken) ∧ ∃ since, s.lineGap = some since ∧ since + 20 < s.elapsed
  | .growthReport l => (s.lane l).growth = true
  | .samplePassEnd l closed => closed = (s.lane l).contacts ∧ (s.lane l).run = .running ∧ 1 ≤ (s.lane l).cfg.rows ∧
      ∃ due, (s.lane l).passTimer = some due ∧ due ≤ s.elapsed
  | .gapTimerExpiry l p => (s.lane l).run = .running ∧ (s.port l p).cfg.enabled = true ∧
      ((s.port l p).rx = .assembly ∨ (s.port l p).rx = .skip) ∧ ∃ due, (s.port l p).gap = some due ∧ due ≤ s.elapsed
  | .replyTimerExpiry l p => (s.port l p).expect = .timing ∧ ∃ due, (s.port l p).replyTimer = some due ∧ due ≤ s.elapsed
  | .debouncedChange l => (s.lane l).run = .running ∧
      ∃ since, (s.lane l).drawer.measure = some since ∧ since + (s.lane l).drawer.debounce ≤ s.elapsed
  | .pulseTimerExpiry l => (s.lane l).drawer.st = .kickPulse ∧ ∃ due, (s.lane l).drawer.pulse = some due ∧ due ≤ s.elapsed
  | .retryTimerExpiry l => (s.lane l).drawer.st = .kickWait ∧ ∃ due, (s.lane l).drawer.retry = some due ∧ due ≤ s.elapsed
  | .openTimerExpiry l => (s.lane l).drawer.st = .opened ∧ (s.lane l).drawer.active.alarm ≠ 0 ∧
      ∃ counted since, (s.lane l).drawer.openTimer = .running counted since ∧
        (s.lane l).drawer.active.alarm * 1000 ≤ counted + (s.elapsed - since)
  | _ => False

/-- The judgement of a lane field that may name the device, and of a body of n bytes, lane first (R188): BAD_LANE for 4 to 254, and
BAD_LENGTH for an empty body or any other length. -/
def ScopeJudged (request : List Byte → Instr) (n : Nat) : Prop :=
  ∀ s : State, Serves s →
    (∀ (b : Byte) (rest : List Byte), 4 ≤ b.toNat → b ≠ 0xFF → RefusedAs (request (b :: rest)) 0x02 s) ∧
      RefusedAs (request []) 0x03 s ∧
      ∀ (b : Byte) (rest : List Byte), b.toNat < 4 ∨ b = 0xFF → rest.length + 1 ≠ n → RefusedAs (request (b :: rest)) 0x03 s

/-- A part that has received a bad frame: it is counted, LINK raised, and the receiver hunts with nothing held (R179). -/
def badFrameSeen (s : State) : State :=
  { received s with badFrames := min (s.badFrames + 1) 65535, link := true, linkReported := false }

/-- The requests that a good frame may carry, with their kind bytes (Table 11-3). -/
def requestsOf (f : LineFrame) : List (Byte × Instr) :=
  [(0x01, .identify f.body), (0x02, .getTime f.body), (0x03, .setTime f.body), (0x04, .resetDevice f.body),
   (0x10, .laneConfig f.body), (0x11, .start f.body), (0x12, .stop f.body), (0x13, .resetLane f.body),
   (0x14, .linesSet f.body), (0x15, .linesDir f.body), (0x16, .linesRead f), (0x20, .keymapWrite f.body),
   (0x21, .keymapRead f.body), (0x28, .portConfig f.body), (0x29, .scannerSend f.body), (0x30, .filterConfig f.body),
   (0x31, .symbologyWrite f.body), (0x32, .forget f.body), (0x38, .fetch f.body), (0x39, .purge f.body),
   (0x40, .drawerConfig f.body), (0x41, .kick f.body), (0x48, .status f.body), (0x49, .ackFlags f.body),
   (0x4A, .attnMask f.body), (0x4B, .clearFault f.body), (0x4C, .latchCounters f.body), (0x4D, .readCounters f.body),
   (0x4E, .clearCounters f.body)]

/-- What the outside gives the pins with a good frame, for the frames that carry it (log entries 8 and 19). -/
def givenOutside : Instr → Option Outside
  | .linesRead f | .unknownKind _ f | .inboundOverrun _ f | .frameDiscardedAtReset _ f => some f.outside
  | _ => none

/-- The length in bytes of each kind of record (Table 7-1). -/
def tableLength : RecBody → Nat
  | .keyDown .. | .keyRepeat .. | .drawerClosed _ => 13
  | .keyUp .. => 14
  | .lock .. | .drawerOpen .. | .drawerOverdue _ | .drawerAbort .. => 11
  | .scan _ _ code => 11 + code.length
  | .scanReject .. => 12
  | .scannerReply _ bytes => 10 + bytes.length
  | .scannerTimeout _ | .drawerFail _ => 10
  | .laneStart => 9

/-- The value of a port in a record: bits 4 to 7 of its port byte (Tables 11-4, 11-5). -/
def portValue : PortId → Nat
  | .A => 0
  | .B => 1

/-- The kind byte and the body bytes that each kind of record is sent with (Tables 11-4, 11-5, 11-9). -/
def sentRecord : RecBody → Byte × List Byte
  | .keyDown pos code cls =>
      (0x01, [byteOf pos] ++ le16 code.toNat ++
        [match cls with | .ignore => 0 | .normal => 1 | .shift => 2 | .lockContact => 3 | .drawer => 4 | .clearRecent => 5])
  | .keyUp pos code heldTime => (0x02, [byteOf pos] ++ le16 code.toNat ++ le16 heldTime)
  | .keyRepeat pos code number => (0x03, [byteOf pos] ++ le16 code.toNat ++ [byteOf number])
  | .lock new none => (0x04, [byteOf new, 0xFF])
  | .lock new (some previous) => (0x04, [byteOf new, byteOf previous])
  | .scan port index code => (0x05, [byteOf (index + 16 * portValue port), byteOf code.length] ++ code)
  | .scanReject port index reason length =>
      (0x06, [byteOf (index + 16 * portValue port),
        match reason with | .locked => 1 | .lineError => 2 | .unlisted => 3 | .length => 4 | .notNumeric => 5 | .check => 6,
        byteOf length])
  | .scannerReply port bytes => (0x07, [byteOf (bytes.length + 16 * portValue port)] ++ bytes)
  | .scannerTimeout port => (0x08, [byteOf (portValue port)])
  | .drawerOpen cause tries =>
      (0x09, [match cause with | .commanded => 0 | .uncommanded => 1 | .atStart => 2, byteOf tries])
  | .drawerClosed duration => (0x0A, le32 duration)
  | .drawerOverdue seconds => (0x0B, le16 seconds)
  | .drawerFail tries => (0x0C, [byteOf tries])
  | .drawerAbort cause tries => (0x0D, [match cause with | .inhibit => 0 | .stop => 1, byteOf tries])
  | .laneStart => (0x0E, [])

/-- The byte of a drawer state (Table 11-4). -/
def drawerByte : DrawerState → Byte
  | .settling => 0x00
  | .shut => 0x01
  | .kickPulse => 0x02
  | .kickWait => 0x03
  | .opened => 0x04
  | .overdue => 0x05

/-- The byte of a lock position (Table 11-4). -/
def lockByte : LockPos → Byte
  | .index i => byteOf i
  | .inTransit => 0x06
  | .noLock => 0x07

/-- The byte of an expectation state (Table 11-4). -/
def expectByte : Expect → Byte
  | .idle => 0x00
  | .awaitingSend => 0x01
  | .timing => 0x02
  | .timedOut => 0x03

/-- The Fault Record image, with its kinds and sources (Tables 11-4, 11-12). -/
def faultBytes (r : FaultRecord) : List Byte :=
  let kind : Byte := match r.kind with
    | .none => 0x00
    | .lineFraming => 0x01
    | .lineParity => 0x02
    | .recordTooLong => 0x03
    | .recordFragment => 0x04
    | .recordOverrun => 0x05
    | .replyTimeout => 0x06
    | .replyLate => 0x07
    | .replyUnexpected => 0x08
    | .ghost => 0x09
    | .kickNoOpen => 0x0A
  let source : Byte := match r.source with
    | .none => 0x00
    | .keyboard => 0x01
    | .port .A => 0x02
    | .port .B => 0x03
    | .drawer => 0x04
  [if r.locked then 0x01 else 0x00, kind, source] ++ le48 r.time ++ le16 r.detail.toNat ++ [byteOf r.further]

/-- The twelve counters at their indices (Table 9-3). -/
def counterPlaces : List (Counter × Fin 12) :=
  [(.keysAccepted, 0), (.repeatsWithheld, 1), (.rolloverBlocked, 2), (.ghostEpisodes, 3), (.scansAccepted, 4), (.dupSamePort, 5),
   (.dupCrossPort, 6), (.scansRejected, 7), (.recordsLost, 8), (.drawerOpens, 9), (.uncommandedOpens, 10), (.kickFailures, 11)]

/-- Whether the byte-valued fields of a port configuration break R58: above 7Fh on a port of 7 data bits, or a prefix or a reply mark
with the value of the terminator. -/
def BreaksByteFields (c : PortConfig) : Prop :=
  let high := fun b : OptByte => b.present = true ∧ 0x7F < b.value.toNat
  (c.sevenBits = true ∧ (high c.pre ∨ high c.replyMark ∨ high c.goodTone ∨ high c.badTone ∨ 0x7F < c.terminator.toNat)) ∨
    (c.pre.present = true ∧ c.pre.value = c.terminator) ∨ (c.replyMark.present = true ∧ c.replyMark.value = c.terminator)

/-- What an event of another lane may do to a lane section: its store-high state, HIGH, the growth mark and the HOLD outputs,
all through the shared room of the Event Store (R120, R129, R131, R132). HIGH is raised, and leaves the reported set, only where the
lane ends in store-high, and exactly then if it was out of it (R129, R162). -/
def OnlyStoreMoved (L L' : Lane) : Prop :=
  ∃ high raised growth holdA holdB : Bool,
    (raised = true → high = true) ∧ (L.storeHigh = false → raised = high) ∧
      L' = { L with
        storeHigh := high, growth := growth
        sticky := if raised then L.sticky ||| flagHigh else L.sticky
        reported := if raised then L.reported &&& ~~~flagHigh else L.reported
        portA := { L.portA with hold := holdA }, portB := { L.portB with hold := holdB } }

end Sys2Proof.Claims

open Sys2Proof.Claims

/-- For every command c and every state whose queue is c and then rest, the step of the state is exec of c on the
state with the queue rest. The command queue is the task's own (log entry 24), not the spec's. -/
def Obligations.StepRunsFrontCommand : Prop :=
  ∀ (c : Instr) (rest : List Instr) (s : State),
    s.pending = c :: rest → step s = exec c { s with pending := rest }

/-- With an empty queue: while a pass that ends now has a row whose turn has not come, a step drives the next row of
each such lane, row 0 first and up to the last configured row, releasing the one before. Otherwise the commands due
are those whose event's time has been reached, each once; a step on a part with nothing due advances the Device Clock
and the elapsed-time count by one millisecond, and a step on a part with events due puts them in the queue. Nothing
else changes. This is the model's choice: log entries 1, 2, 12, 21, 31 and 35. -/
def Obligations.IdleStepTicksOrQueuesDue : Prop :=
  (∀ s : State, (∀ i : Instr, i ∈ dueEvents s ↔ DueNow s i) ∧ (dueEvents s).Nodup) ∧
  ∀ s : State, s.pending = [] →
    (∀ l : LaneId, rowLeft s l = true ↔
      passDue s l = true ∧ ∀ r, (s.lane l).rowTurn = some r → r + 1 < (s.lane l).cfg.rows) ∧
    ((∃ l : LaneId, rowLeft s l = true) →
      step s = .next (s.mapLanes fun l L =>
        if rowLeft s l then { L with rowTurn := some (L.rowTurn.elim 0 (· + 1)) } else L)) ∧
    ((∀ l : LaneId, rowLeft s l = false) →
      (dueEvents s = [] → step s = .next { s with clock := s.clock + 1, elapsed := s.elapsed + 1 }) ∧
        (dueEvents s ≠ [] → step s = .next { s with pending := dueEvents s }))

/-- Whatever the command and the state, the queue of waiting commands after exec is the queue before it: resets,
served requests and frames examined again included (log entries 10 and 24). -/
def Obligations.CommandsLeaveTheQueue : Prop :=
  ∀ (i : Instr) (s t : State), exec i s = .next t → t.pending = s.pending

/-- After power-on reset every lane is READY with the configuration defaults of Table 1-7, an empty queue, headroom
256 and store-high off; F is 256 and the total free count 512; every keymap entry is NORMAL, its position, its
position plus 128, repeat on; the lock position is NONE, the last defined one undefined; every line is an input with
latch 0 and the pull-up off; every port has the defaults of Table 4-2: disabled, 9600 bit/s, 8 data bits, no parity,
no prefix, terminator 0Dh, no reply mark, gap timeout 50, no tones, reply timeout 500 ms, HOLD active high; it ignores
its line and asserts HOLD, and its transmit pin rests high; the recent-code table, the counter latch and every flag
are empty, the counters 0 and the Fault Record unlocked and zero; the drawer is in SETTLING with the defaults of Table
8-1: the four times, debounce 20, polarity open = high, local kick off; the Symbology Table is empty, strict off, the
windows 500 and 800; the Device Clock, the device enable mask and both link counts are 0, LINK is clear with its
reported set empty, the holding area is empty, the receiver hunts with the gap limit stopped, STXD rests high, and
ATTN is released. -/
def Obligations.ResetValues : Prop :=
  (∀ l : LaneId, (State.reset.lane l).run = .ready ∧
    (State.reset.lane l).cfg =
      { rows := 0, cols := 16, period := 4, pressCount := 3, releaseCount := 3, rollover := 4, diodes := false
        typeDelay := 50, typeInterval := 10, reserve := 64, cap := 256, margin := 8, hysteresis := 8
        scanMask := 0x3F, kickMask := 0x3F, pauseMask := 0 } ∧
    (State.reset.lane l).queue = [] ∧ headroom State.reset l = 256 ∧ (State.reset.lane l).storeHigh = false ∧
    (State.reset.lane l).lost = 0 ∧ (State.reset.lane l).lineLatch = 0 ∧ (State.reset.lane l).lineDir = 0 ∧
    (State.reset.lane l).pullUp = false ∧
    (∀ p : Fin 128, (State.reset.lane l).keymap[p] =
      { cls := .normal, base := BitVec.ofNat 16 p.val, shifted := BitVec.ofNat 16 (p.val + 128), repeats := true }) ∧
    (State.reset.lane l).lock = .noLock ∧ (State.reset.lane l).lastLock = none ∧ (State.reset.lane l).held = [] ∧
    (∀ q : PortId, ((State.reset.lane l).port q).rx = .ignoring ∧ ((State.reset.lane l).port q).hold = true ∧
      txRestsHigh ((State.reset.lane l).port q) = true ∧
      ((State.reset.lane l).port q).cfg.enabled = false ∧ ((State.reset.lane l).port q).cfg.rate = 3 ∧
      ((State.reset.lane l).port q).cfg.sevenBits = false ∧ ((State.reset.lane l).port q).cfg.parity = .none ∧
      ((State.reset.lane l).port q).cfg.pre.present = false ∧ ((State.reset.lane l).port q).cfg.terminator = 0x0D ∧
      ((State.reset.lane l).port q).cfg.replyMark.present = false ∧ ((State.reset.lane l).port q).cfg.gapTimeout = 50 ∧
      ((State.reset.lane l).port q).cfg.goodTone.present = false ∧ ((State.reset.lane l).port q).cfg.badTone.present = false ∧
      ((State.reset.lane l).port q).cfg.replyTimeout = 50 ∧ ((State.reset.lane l).port q).cfg.holdActiveLow = false) ∧
    (State.reset.lane l).recent = [] ∧ (State.reset.lane l).counterLatch = none ∧
    (State.reset.lane l).counters = Vector.replicate 12 0 ∧ (State.reset.lane l).fault = {} ∧
    laneFlags (State.reset.lane l) = 0 ∧ (State.reset.lane l).reported = 0 ∧ (State.reset.lane l).enable = 0 ∧
    (State.reset.lane l).drawer.st = .settling ∧ (State.reset.lane l).drawer.kick = false ∧
    (State.reset.lane l).drawer.active = { width := 80, retryPeriod := 600, maxTries := 2, alarm := 60 } ∧
    (State.reset.lane l).drawer.staged = { width := 80, retryPeriod := 600, maxTries := 2, alarm := 60 } ∧
    (State.reset.lane l).drawer.debounce = 20 ∧ (State.reset.lane l).drawer.openHigh = true ∧
    (State.reset.lane l).drawer.localKick = false) ∧
  freeShared State.reset = 256 ∧ totalFree State.reset = 512 ∧
  (∀ i : Fin 8, State.reset.symbology[i].present = false) ∧ State.reset.strict = false ∧
  State.reset.sameWindow = 500 ∧ State.reset.crossWindow = 800 ∧ State.reset.clock = 0 ∧ State.reset.badFrames = 0 ∧
  State.reset.overruns = 0 ∧ State.reset.area = [] ∧ stxdRestsHigh State.reset = true ∧ State.reset.rx = .hunt ∧
  State.reset.lineGap = none ∧ State.reset.link = false ∧ State.reset.linkReported = false ∧
  State.reset.deviceEnable = 0 ∧ State.reset.attn = false

/-- POWER_ON_RESET, and RESET_DEVICE_ACTS on a part whose RESET_DEVICE has been served and whose last reply has left
the line, put every part of the state at its power-on value, with the straps read as the line rate. Only the queue of
waiting commands and the inputs are kept: INH_N, the pins, the contacts, the sensors and a character in progress on a
line; one on the system line stays lost through any number of resets (log entries 10 and 11). -/
def Obligations.ResetsRestoreTheResetState : Prop :=
  ∀ (straps : BitVec 2) (s : State),
    exec (.powerOnReset straps) s = .next (afterReset straps s) ∧
      (s.resetArmed = true → s.area = [] → exec (.resetDeviceActs straps) s = .next (afterReset straps s))

/-- On a part that serves frames, every request adds exactly one frame to the end of the holding area, with a reply
formed by the framing rule whose kind byte is the request's plus 80h, or FFh for one of 80h or above (R183). If the
result, the first byte of that reply, is neither OK nor CLAMPED, the rest of the part is as it was when the frame was
received, and the reply holds the result alone. -/
def Obligations.RefusedRequestsChangeNothing : Prop :=
  ∀ (i : Instr) (k : Byte) (b : List Byte) (s t : State), requestFrame i = some (k, b) → Serves s → exec i s = .next t →
    ∃ (result : Byte) (fields : List Byte),
      t.area = s.area ++ [{ kind := k, body := b
                            reply := frameBytes (if k.toNat < 0x80 then k + 0x80 else 0xFF) (result :: fields) }] ∧
        (result ≠ 0x00 → result ≠ 0x01 → fields = [] ∧ t = settle { received s with area := t.area })

/-- For each request that takes lanes 0 to 3 and has a fixed length: a lane byte above 3 is refused BAD_LANE whatever
the length, an empty body and a body of a wrong length are refused BAD_LENGTH, and nothing else of the part is
changed. The lengths are those of Table 11-6. -/
def Obligations.LaneAndLengthJudgedFirst : Prop :=
  LaneJudged .laneConfig 19 ∧ LaneJudged .start 1 ∧ LaneJudged .stop 1 ∧ LaneJudged .resetLane 1 ∧
    LaneJudged .linesSet 9 ∧ LaneJudged .linesDir 10 ∧
    (∀ outside, LaneJudged (fun body => .linesRead { body := body, outside := outside }) 1) ∧ LaneJudged .keymapRead 3 ∧
    LaneJudged .portConfig 15 ∧ LaneJudged .forget 1 ∧ LaneJudged .fetch 2 ∧ LaneJudged .purge 1 ∧
    LaneJudged .drawerConfig 10 ∧ LaneJudged .kick 1 ∧ LaneJudged .clearFault 1 ∧ LaneJudged .readCounters 1 ∧
    LaneJudged .clearCounters 1

/-- For every kind byte and every body of 0 to 250 bytes: when a hunting receiver takes the characters of the frame
that R178 forms of them, the part does exactly what it does on the good frame of that kind and body (log entry 7). No
bit of the kind or the body is dropped or added. Each of the 29 kind bytes of Table 11-3 names its request: the
characters of a frame of that kind, and a good frame of it however it comes, do exactly what the request's own command
does with that body, and with what the outside gives the pins then. A frame is the start byte 5Ah, the length, the
kind, the body and a check byte, whose bytes after the first sum to 0 modulo 256. -/
def Obligations.FramesDecodeAsTheyAreFormed : Prop :=
  (∀ f : LineFrame, (requestsOf f).map Prod.fst = knownKinds ∧
    ∀ e : Byte × Instr, e ∈ requestsOf f → requestFrame e.2 = some (e.1, f.body)) ∧
  (∀ (i : Instr) (kind : Byte) (body : List Byte) (outside : Outside) (s : State), requestFrame i = some (kind, body) →
    (∀ given, givenOutside i = some given → given = outside) →
    exec (.unknownKind kind { body := body, outside := outside }) s = exec i s ∧
      (body.length ≤ 250 → s.rx = .hunt → s.lineGap = none → s.lineDrop = false →
        exec (.badFrame { chars := frameChars kind body, outside := outside }) s = exec i s)) ∧
  (∀ (kind : Byte) (body : List Byte), ∃ check : Byte,
    let sent : List Byte := [0x5A, BitVec.ofNat 8 (body.length + 1), kind] ++ body ++ [check]
    frameBytes kind body = sent ∧ ((sent.drop 1).map BitVec.toNat).sum % 256 = 0 ∧
      frameChars kind body = sent.map fun b => { value := b, damaged := false }) ∧
  (∀ bytes : List Byte, (byteSum bytes).toNat = (bytes.map BitVec.toNat).sum % 256) ∧
  ∀ (kind : Byte) (body : List Byte) (outside : Outside) (s : State), body.length ≤ 250 → s.rx = .hunt → s.lineGap = none →
    s.lineDrop = false →
    exec (.badFrame { chars := frameChars kind body, outside := outside }) s =
      exec (.unknownKind kind { body := body, outside := outside }) s

/-- When a hunting receiver takes a whole frame whose bytes from the length byte on do not sum to 0 and hold no 5Ah,
the frame is discarded: the bad-frame count rises by 1, saturating at 65,535, LINK is raised and leaves the device
reported set, and the receiver hunts with nothing held. Nothing else of the part changes (log entry 7). A damaged
character taken in FRAME before the frame's last byte, with no 5Ah among the bytes held after the start byte, discards
the frame: the bad-frame count rises by 1, saturating at 65,535, LINK is raised, and the receiver hunts with nothing
held. Nothing else changes. The characters held after the start byte show the frame bad: a length of 0 or of 252 to
255, a whole frame whose sum is not 0, or a damaged character before its end. Then, whatever they are, start bytes and
damaged characters among them included, the part does with them and the characters that follow what a hunting receiver
does once the bad frame is counted: they are examined again from the byte after the start byte. A bad length alone
leaves it hunting with the frame counted. That the bytes already taken after a good frame among them are examined too
is the model's choice (log entry 36). -/
def Obligations.BadFramesCountedAndDropped : Prop :=
  (∀ (covered : List Byte) (outside : Outside) (s : State), covered.length = (covered.headD 0).toNat + 2 → 1 ≤ (covered.headD 0).toNat →
    (covered.headD 0).toNat ≤ 251 → (∀ b ∈ covered, b ≠ 0x5A) → byteSum covered ≠ 0 →
    s.rx = .hunt → s.lineDrop = false →
    exec (.badFrame { chars := (0x5A :: covered).map fun b => { value := b, damaged := false }, outside := outside }) s =
      .next (settle { received s with badFrames := min (s.badFrames + 1) 65535, link := true, linkReported := false })) ∧
  (∀ (taken : List Byte) (v : Byte) (outside : Outside) (s : State), s.rx = .frame taken → (∀ b ∈ taken, b ≠ 0x5A) →
    (∀ n held, taken = n :: held → held.length ≤ n.toNat) → s.lineDrop = false →
    exec (.badFrame { chars := [{ value := v, damaged := true }], outside := outside }) s =
      .next (settle { received s with badFrames := min (s.badFrames + 1) 65535, link := true, linkReported := false })) ∧
  ((∀ (held rest : List LineChar) (outside : Outside) (s : State), s.rx = .hunt → s.lineGap = none → s.lineDrop = false →
    let good := fun b : Byte => ({ value := b, damaged := false } : LineChar)
    ((∃ n : Byte, held = [good n] ∧ (n.toNat = 0 ∨ 252 ≤ n.toNat)) ∨
      (∃ n covered, held = (n :: covered).map good ∧ 1 ≤ n.toNat ∧ n.toNat ≤ 251 ∧ covered.length = n.toNat + 1 ∧
        byteSum (n :: covered) ≠ 0) ∨
      (∃ (before : List Byte) (d : LineChar), held = before.map good ++ [d] ∧ d.damaged = true ∧
        ∀ n more, before = n :: more → more.length ≤ n.toNat)) →
    exec (.badFrame { chars := good 0x5A :: held ++ rest, outside := outside }) s =
      exec (.badFrame { chars := held ++ rest, outside := outside }) (badFrameSeen s)) ∧
  (∀ (n : Byte) (outside : Outside) (s : State), s.rx = .hunt → s.lineDrop = false → n.toNat = 0 ∨ 252 ≤ n.toNat →
    exec (.badFrame { chars := [0x5A, n].map fun b => { value := b, damaged := false }, outside := outside }) s =
      .next (settle (badFrameSeen s))))

/-- A good frame whose kind byte names no request of Table 11-3 is answered with the result UNKNOWN_KIND alone,
whatever its body; the reply kind is the kind plus 80h, or FFh for a kind of 80h or above; nothing else of the part
changes. Whatever request a good frame carries, INBOUND_OVERRUN included: on a part whose holding area holds two
frames and no RESET_DEVICE waits, it is discarded unserved and without a reply, the inbound-overrun count rises by 1,
saturating at 65,535, and LINK is raised. Nothing else changes. Whatever request a good frame carries,
FRAME_DISCARDED_AT_RESET included: between a served RESET_DEVICE and its reset it is discarded unserved, without a
reply and without an overrun. The receiver hunts, and nothing else changes. The commands carry any kind and body (log
entry 8). -/
def Obligations.FramesNotServed : Prop :=
  (∀ (k : Byte) (b : List Byte) (outside : Outside) (s : State), Serves s → k ∉ knownKinds →
    exec (.unknownKind k { body := b, outside := outside }) s =
      .next (settle { received s with
        area := s.area ++ [{ kind := k, body := b
                             reply := frameBytes (if k.toNat < 0x80 then k + 0x80 else 0xFF) [0x05] }] })) ∧
  (∀ (i : Instr) (k : Byte) (b : List Byte) (s : State), requestFrame i = some (k, b) → s.resetArmed = false →
    2 ≤ s.area.length →
    exec i s = .next (settle { received s with overruns := min (s.overruns + 1) 65535, link := true, linkReported := false })) ∧
  (∀ (i : Instr) (k : Byte) (b : List Byte) (s : State), requestFrame i = some (k, b) → s.resetArmed = true →
    exec i s = .next (settle (received s)))

/-- After more than 20 ms of silence within a frame (21 ms of the time base, log entry 4), GAP_LIMIT_EXPIRY abandons
the frame, counts it, saturating at 65,535, and raises LINK, without examining its bytes again. A start bit stops the
gap limit and begins a character of its own. REPLY_SENT takes the oldest frame out of the holding area, and STXD rests
high exactly when no frame is left. Each changes nothing else. A character whose start bit came before a reset is lost
whole when it completes, and the characters after it are taken as though it had not come (log entry 11). A reply is
held whole until its end (log entries 15 and 23). -/
def Obligations.LineTimingEvents : Prop :=
  (∀ (taken : List Byte) (since : Nat) (s : State), s.rx = .frame taken → s.lineGap = some since → since + 20 < s.elapsed →
    exec .gapLimitExpiry s =
      .next (settle { s with rx := .hunt, lineGap := none, badFrames := min (s.badFrames + 1) 65535
                             link := true, linkReported := false })) ∧
  (∀ s : State, exec .systemLineStartBit s = .next (settle { s with lineGap := none, lineStart := true, lineDrop := false })) ∧
  (∀ (f : HeldFrame) (rest : List HeldFrame) (s : State), s.area = f :: rest →
    stxdRestsHigh s = false ∧
      ∃ t, exec .replySent s = .next t ∧ t = settle { s with area := rest } ∧ (stxdRestsHigh t = true ↔ rest = [])) ∧
  (∀ (c : LineChar) (rest : List LineChar) (outside : Outside) (s : State), s.lineDrop = true → s.rx = .hunt → s.lineGap = none →
    exec (.badFrame { chars := c :: rest, outside := outside }) s =
      exec (.badFrame { chars := rest, outside := outside }) (received s))

/-- IDENTIFY and GET_TIME with a body that is not empty are refused BAD_LENGTH. IDENTIFY is answered OK with part code
0416h, revision 1, 4 lanes, 2 ports per lane and 512 slots. GET_TIME is answered OK with the Device Clock as it stands
when the request is served. Both change nothing but the holding area and the receiver, and the reply keeps the value.
-/
def Obligations.IdentifyAndGetTime : Prop :=
  ∀ s : State, Serves s →
    (∀ body : List Byte, body ≠ [] → RefusedAs (.identify body) 0x03 s ∧ RefusedAs (.getTime body) 0x03 s) ∧
    exec (.identify []) s =
      .next (replied 0x01 [] [0x00, 0x16, 0x04, 0x01, 0x04, 0x02, 0x00, 0x02] (received s)) ∧
    exec (.getTime []) s = .next (replied 0x02 [] (0x00 :: le48 s.clock) (received s))

/-- SET_TIME of a length other than 6 is refused BAD_LENGTH. It is refused NOT_EMPTY while some lane queue or some
hand-off slot holds a record, and otherwise sets the Device Clock to the given value, moving no timer and no elapsed-
time count. RESET_DEVICE with a body is refused BAD_LENGTH, and with none is answered OK and arms the reset. -/
def Obligations.SetTimeAndResetDevice : Prop :=
  ∀ s : State, Serves s →
    (∀ body : List Byte, body.length ≠ 6 → RefusedAs (.setTime body) 0x03 s) ∧
    (∀ body : List Byte, body ≠ [] → RefusedAs (.resetDevice body) 0x03 s) ∧
    (∀ body : List Byte, body.length = 6 →
      ((∃ l : LaneId, (s.lane l).queue ≠ [] ∨ (s.lane l).portA.slot ≠ none ∨ (s.lane l).portB.slot ≠ none) →
        RefusedAs (.setTime body) 0x0B s) ∧
      ((∀ l : LaneId, (s.lane l).queue = [] ∧ (s.lane l).portA.slot = none ∧ (s.lane l).portB.slot = none) →
        exec (.setTime body) s =
          .next (replied 0x03 body [0x00] { received s with clock := BitVec.ofNat 48 (u48 body 0) }))) ∧
    exec (.resetDevice []) s = .next (replied 0x04 [] [0x00] { received s with resetArmed := true })

/-- START of a READY lane is answered OK: the lane becomes RUNNING with every position UP and no ghost episode, its
passes timed one pass period from now, no held key, the lock position IN_TRANSIT or NONE by its keymap, its ports
emptied and the enabled ones hunting, its drawer in SETTLING with the measurement begun; then LANE_START is offered. A
RUNNING lane refuses it STATE. Nothing else changes. The marks of a character in progress are log entry 11. -/
def Obligations.StartOfReadyLane : Prop :=
  ∀ (l : LaneId) (s : State), Serves s →
    ((s.lane l).run = .ready →
      exec (.start [laneByte l]) s =
        .next (replied 0x11 [laneByte l] [0x00]
          (offer l .laneStart {} ((received s).modLane l (startedLane s.elapsed))))) ∧
    ((s.lane l).run = .running → RefusedAs (.start [laneByte l]) 0x06 s)

/-- STOP of a RUNNING lane whose slots are empty and whose drawer is in no kick is answered OK: the lane becomes READY
with its key state, repeat, lock position, ports, expectations and timers at rest, its drawer in SETTLING with the
staged set active; its queue, recent-code table, last defined lock position, flags, faults and counters are kept. STOP
of a READY lane is answered OK and changes nothing. STOP of a RUNNING lane outside a kick with n occupied hand-off
slots: as above, and for each slot emptied the pending-loss count rises by 1, saturating at 255, records_lost rises by
1, wrapping, and LOSS is raised; no record is made. STOP of a RUNNING lane in a kick, with room for a record: the lane
queue gains a DRAWER_ABORT with cause STOP and the tries used, whose lost_before counts the hand-off slots that STOP
emptied with the losses before them, saturating at 255; the kick output is off and the drawer in SETTLING; both slots
are empty and the pending-loss count is 0. In a kick with no headroom the DRAWER_ABORT is lost too: the pending-loss
count and records_lost gain one more than the emptied slots, LOSS is raised, and nothing joins the queue. -/
def Obligations.StopOfLane : Prop :=
  (∀ (l : LaneId) (s : State), Serves s →
    ((s.lane l).run = .running → (s.lane l).portA.slot = none → (s.lane l).portB.slot = none →
      (s.lane l).drawer.st ≠ .kickPulse → (s.lane l).drawer.st ≠ .kickWait →
      exec (.stop [laneByte l]) s = .next (replied 0x12 [laneByte l] [0x00] ((received s).modLane l stoppedLane))) ∧
    ((s.lane l).run = .ready → exec (.stop [laneByte l]) s = .next (replied 0x12 [laneByte l] [0x00] (received s)))) ∧
  (∀ (l : LaneId) (s : State), Serves s → (s.lane l).run = .running → (s.lane l).drawer.st ≠ .kickPulse →
    (s.lane l).drawer.st ≠ .kickWait → (s.lane l).lost ≤ 255 →
    let n := (s.lane l).portA.slot.isSome.toNat + (s.lane l).portB.slot.isSome.toNat
    exec (.stop [laneByte l]) s =
      .next (replied 0x12 [laneByte l] [0x00] ((received s).modLane l fun L =>
        { stoppedLane L with
          lost := min (L.lost + n) 255, counters := L.counters.set 8 (L.counters[8] + BitVec.ofNat 32 n)
          sticky := if n = 0 then L.sticky else L.sticky ||| flagLoss
          reported := if n = 0 then L.reported else L.reported &&& ~~~flagLoss }))) ∧
  (∀ (l : LaneId) (s : State), Serves s → (s.lane l).run = .running →
    ((s.lane l).drawer.st = .kickPulse ∨ (s.lane l).drawer.st = .kickWait) → 1 ≤ headroom s l → (s.lane l).lost ≤ 255 →
    ∃ t, exec (.stop [laneByte l]) s = .next t ∧
      (t.lane l).queue = (s.lane l).queue ++
        [{ body := .drawerAbort .stop (s.lane l).drawer.tries
           lostBefore := min ((s.lane l).lost + (s.lane l).portA.slot.isSome.toNat + (s.lane l).portB.slot.isSome.toNat) 255
           stamp := s.clock }] ∧
      (t.lane l).lost = 0 ∧ (t.lane l).portA.slot = none ∧ (t.lane l).portB.slot = none ∧
      (t.lane l).drawer = stoppedDrawer (s.lane l).drawer ∧ (t.lane l).run = .ready) ∧
  (∀ (l : LaneId) (s : State), Serves s → (s.lane l).run = .running →
    ((s.lane l).drawer.st = .kickPulse ∨ (s.lane l).drawer.st = .kickWait) → headroom s l = 0 →
    let n := (s.lane l).portA.slot.isSome.toNat + (s.lane l).portB.slot.isSome.toNat + 1
    exec (.stop [laneByte l]) s =
      .next (replied 0x12 [laneByte l] [0x00] ((received s).modLane l fun L =>
        { stoppedLane L with
          lost := min (L.lost + n) 255, counters := L.counters.set 8 (L.counters[8] + BitVec.ofNat 32 n)
          sticky := L.sticky ||| flagLoss, reported := L.reported &&& ~~~flagLoss })))

/-- RESET_LANE, in either lane state, is answered OK: the lane becomes READY with its records, losses, faults,
counters, latch, flags, reported set, recent-code table and last defined lock position cleared and no loss or abort
record made; its configuration, ports' configurations, drawer settings, keymap, enable mask and general lines are
kept. The store is then recomputed. Nothing else changes. -/
def Obligations.ResetLaneClearsLane : Prop :=
  ∀ (l : LaneId) (s : State), Serves s →
    exec (.resetLane [laneByte l]) s =
      .next (replied 0x13 [laneByte l] [0x00] (recompute (received s) ((received s).modLane l clearedLane)))

/-- A LANE_CONFIG of its length for lane l: BAD_VALUE if the diodes field is above 1 or a lock mask has a bit above
bit 5; else STATE if the lane runs; else, with the clamped configuration c: NO_ROOM unless the reserves sum to at most
512, the lane's occupancy is at most the cap of c, and the shared use is at most the shared part, all with c in place;
else the lane takes c, the store is recomputed, and the answer is CLAMPED if c differs from the fields given, and OK
otherwise. Clamping brings every numeric field within its range with the reserve at most the cap; an out-of-range
field takes the nearer limit of Table 1-7, the reserve lowered to the cap; a configuration already within every range
is not changed; and the two worked requests of R8 come out as the rule says. Every field of a body is read least
significant byte first. -/
def Obligations.LaneConfigJudgedAndTaken : Prop :=
  ((∀ (body : List Byte) (i : Nat) (l : LaneId), laneByte l = BitVec.ofNat 8 l.val ∧ u8 body i = (body.getD i 0).toNat ∧
    u16 body i = u8 body i + 256 * u8 body (i + 1) ∧
    u32 body i = u8 body i + 256 * u8 body (i + 1) + 65536 * u8 body (i + 2) + 16777216 * u8 body (i + 3) ∧
    u48 body i = u32 body i + 4294967296 * u16 body (i + 4)) ∧
  (∀ (f : Lane → Nat) (s : State), sumLanes f s = f (s.lane 0) + f (s.lane 1) + f (s.lane 2) + f (s.lane 3)) ∧
  ∀ (l : LaneId) (body : List Byte) (s : State), Serves s → body.length = 19 → body.head? = some (laneByte l) →
    let given : LaneConfig :=
      { rows := u8 body 1, cols := u8 body 2, period := u8 body 3, pressCount := u8 body 4, releaseCount := u8 body 5
        rollover := u8 body 6, diodes := decide (u8 body 7 = 1), typeDelay := u8 body 8, typeInterval := u8 body 9
        reserve := u16 body 10, cap := u16 body 12, margin := u8 body 14, hysteresis := u8 body 15
        scanMask := body.getD 16 0, kickMask := body.getD 17 0, pauseMask := body.getD 18 0 }
    let c := clampLane given
    let s' := (received s).modLane l fun L => { L with cfg := c }
    let good := u8 body 7 ≤ 1 ∧ u8 body 16 < 64 ∧ u8 body 17 < 64 ∧ u8 body 18 < 64
    let room := sumLanes (fun L => L.cfg.reserve) s' ≤ 512 ∧ occupancy (s.lane l) ≤ c.cap ∧
      sumLanes sharedUse s' ≤ 512 - sumLanes (fun L => L.cfg.reserve) s'
    (¬good → RefusedAs (.laneConfig body) 0x04 s) ∧
      (good → (s.lane l).run = .running → RefusedAs (.laneConfig body) 0x06 s) ∧
      (good → (s.lane l).run = .ready → ¬room → RefusedAs (.laneConfig body) 0x0C s) ∧
      (good → (s.lane l).run = .ready → room →
        exec (.laneConfig body) s =
          .next (replied 0x10 body [if c = given then 0x00 else 0x01] (recompute (received s) s')))) ∧
  ((∀ c : LaneConfig, LaneInRange (clampLane c)) ∧ (∀ c : LaneConfig, LaneInRange c → clampLane c = c) ∧
    (∀ c : LaneConfig,
      let nearer := fun (lo hi v : Nat) => if v < lo then lo else if hi < v then hi else v
      clampLane c =
        { c with
          rows := nearer 0 8 c.rows, cols := nearer 1 16 c.cols, period := nearer 1 10 c.period
          pressCount := nearer 1 8 c.pressCount, releaseCount := nearer 1 8 c.releaseCount, rollover := nearer 1 8 c.rollover
          typeDelay := nearer 10 255 c.typeDelay, typeInterval := nearer 2 255 c.typeInterval
          reserve := if nearer 16 512 c.cap < nearer 0 256 c.reserve then nearer 16 512 c.cap else nearer 0 256 c.reserve
          cap := nearer 16 512 c.cap, margin := nearer 1 64 c.margin, hysteresis := nearer 0 64 c.hysteresis }) ∧
    (∀ c : LaneConfig, c.rows = 12 → c.reserve = 300 → c.cap = 200 →
      (clampLane c).rows = 8 ∧ (clampLane c).reserve = 200 ∧ (clampLane c).cap = 200) ∧
    (∀ c : LaneConfig, c.reserve = 40 → c.cap = 10 → (clampLane c).cap = 16 ∧ (clampLane c).reserve = 16))

/-- A LINES_SET with masks and values below line 26 gives each line in the mask the given latch value and keeps the
others; a LINES_DIR does the same for the directions and always takes the pull-up enable. Both are answered OK in
either lane state and change nothing else. A mask or value bit above line 25, or a pull-up enable above 1, is refused
BAD_VALUE. LINES_READ, with what the outside gives the lines and the key contacts at that moment, is answered with the
pin levels, latches, directions, pull-up enable and owned lines as they stand then, and changes nothing of the part;
one found among the characters of a BAD_FRAME does the same with what the outside gives then. The keyboard owns, in a
RUNNING lane of r rows (1 to 8) and c columns (1 to 16), lines 0 to r - 1 and 8 to 8 + c - 1, and none otherwise. An
owned row is driven low and reads low in its turn, and is released and reads high otherwise (log entry 33); an owned
column is pulled up, and reads low exactly while the contact of its own crossing with the row in its turn is closed
(log entry 34). An unowned line follows Table 1-8: an input is pulled up or released by the enable, an output with
latch 0 is low and reads low, and with latch 1 a ROW pin is released and a COL or AUX pin is high and reads high. An
input or released pin reads the level the outside gives it, and high when pulled up with nothing attached (log entry
19). Bit n of each set that is sent is line n. -/
def Obligations.GeneralLines : Prop :=
  (∀ (l : LaneId) (body : List Byte) (s : State), Serves s → body.head? = some (laneByte l) →
    (body.length = 9 →
      (u32 body 1 < 2 ^ 26 ∧ u32 body 5 < 2 ^ 26 →
        ∃ v : BitVec 26,
          exec (.linesSet body) s =
            .next (replied 0x14 body [0x00] ((received s).modLane l fun L => { L with lineLatch := v })) ∧
          ∀ n, n < 26 → v.getLsbD n =
            if (u32 body 1).testBit n then (u32 body 5).testBit n else (s.lane l).lineLatch.getLsbD n) ∧
      (2 ^ 26 ≤ u32 body 1 ∨ 2 ^ 26 ≤ u32 body 5 → RefusedAs (.linesSet body) 0x04 s)) ∧
    (body.length = 10 →
      (u32 body 1 < 2 ^ 26 ∧ u32 body 5 < 2 ^ 26 ∧ u8 body 9 ≤ 1 →
        ∃ v : BitVec 26,
          exec (.linesDir body) s =
            .next (replied 0x15 body [0x00]
              ((received s).modLane l fun L => { L with lineDir := v, pullUp := decide (u8 body 9 = 1) })) ∧
          ∀ n, n < 26 → v.getLsbD n =
            if (u32 body 1).testBit n then (u32 body 5).testBit n else (s.lane l).lineDir.getLsbD n) ∧
      (2 ^ 26 ≤ u32 body 1 ∨ 2 ^ 26 ≤ u32 body 5 ∨ 2 ≤ u8 body 9 → RefusedAs (.linesDir body) 0x04 s))) ∧
  ((∀ (f : Nat → Bool) (n : Nat), (lineBits f).testBit n = (decide (n < 26) && f n)) ∧
  (∀ (l : LaneId) (outside : Outside) (s : State), Serves s →
    let pins := outside[l]
    let L : Lane := { s.lane l with lineLevel := pins.level, lineAttached := pins.attached, contacts := pins.contacts }
    exec (.linesRead { body := [laneByte l], outside := outside }) s =
      .next (replied 0x16 [laneByte l]
        (0x00 :: laneByte l :: le32 (lineBits (lineLevelNow L)) ++ le32 (s.lane l).lineLatch.toNat ++
          le32 (s.lane l).lineDir.toNat ++ [if (s.lane l).pullUp then 0x01 else 0x00] ++
          le32 (lineBits (lineOwned (s.lane l)))) ((received s).setLane l L))) ∧
  (∀ (body : List Byte) (outside : Outside) (s : State), body.length ≤ 250 → s.rx = .hunt → s.lineGap = none → s.lineDrop = false →
    exec (.badFrame { chars := frameChars 0x16 body, outside := outside }) s =
      exec (.linesRead { body := body, outside := outside }) s) ∧
  (∀ (L : Lane) (n : Nat), L.cfg.rows ≤ 8 → 1 ≤ L.cfg.cols → L.cfg.cols ≤ 16 → n < 26 →
    (lineOwned L n = true ↔ L.run = .running ∧ 1 ≤ L.cfg.rows ∧ (n < L.cfg.rows ∨ 8 ≤ n ∧ n < 8 + L.cfg.cols))) ∧
  (∀ (L : Lane) (n : Nat), lineOwned L n = true →
    (n < 8 → linePin L n = (if L.rowTurn = some n then .low else .released) ∧
      (lineLevelNow L n = false ↔ L.rowTurn = some n)) ∧
    (8 ≤ n → linePin L n = .pulledUp ∧
      (lineLevelNow L n = false ↔
        ∃ r, L.rowTurn = some r ∧ r < L.cfg.rows ∧ L.contacts.getLsbD (r * 16 + (n - 8)) = true))) ∧
  (∀ (L : Lane) (n : Nat), lineOwned L n = false →
    (L.lineDir.getLsbD n = false →
      linePin L n = (if L.pullUp then .pulledUp else .released) ∧
        lineLevelNow L n = (L.lineLevel.getLsbD n || L.pullUp && !L.lineAttached.getLsbD n)) ∧
      (L.lineDir.getLsbD n = true → L.lineLatch.getLsbD n = false → linePin L n = .low ∧ lineLevelNow L n = false) ∧
      (L.lineDir.getLsbD n = true → L.lineLatch.getLsbD n = true →
        linePin L n = (if n < 8 then .released else .high) ∧
          lineLevelNow L n = if n < 8 then L.lineLevel.getLsbD n else true)))

/-- When the pass of a RUNNING lane is due, every position is UP, no position inside the geometry reads closed, the
lock position is the one its held contacts give with no new index, and no key repeats: SAMPLE_PASS_END moves the pass
timer on by one period, ends any ghost episode, and changes nothing else (its inputs as read apart), but that it
releases the row that an idle step drove last (log entry 12). -/
def Obligations.QuietPassChangesNothing : Prop :=
  ∀ (l : LaneId) (closed : BitVec 128) (s : State) (due : Nat),
    (s.lane l).run = .running → 1 ≤ (s.lane l).cfg.rows → (s.lane l).passTimer = some due → due ≤ s.elapsed →
    (s.lane l).keys = Vector.replicate 128 .up → (s.lane l).repeating = none →
    (∀ p, p / 16 < (s.lane l).cfg.rows → p % 16 < (s.lane l).cfg.cols → closed.getLsbD p = false) →
    (s.lane l).lock = computeLock (s.lane l) → (∀ n, (s.lane l).lock = .index n → (s.lane l).lastLock = some n) →
    exec (.samplePassEnd l closed) s =
      .next (settle (s.modLane l fun L =>
        { L with passTimer := some (due + L.cfg.period), contacts := closed, rowTurn := none, ghost := false }))

/-- At a due pass end each position p of the lane takes the state that Table 2-2 gives its state before the pass and
its effective reading, with D and U of the configuration: UP and PRESS_PENDING positions of class IGNORE go to UP; a
press that would complete goes to DOWN, or is held at PRESS_PENDING(D); a masked ghost corner that is UP or
PRESS_PENDING reads open; a release completes after U open readings. A press that would complete, the lower-numbered
positions keeping their states in the pass, completes if its class is LOCK_CONTACT or the rollover count is below the
limit, and is held otherwise; in the walk, it is then handed over as a press, or counted in rollover_blocked if it was
not held before, and a held one stays as it is. With a ghost rectangle the lane is in a ghost episode after the pass:
one that begins is counted in ghost_episodes and offers the GHOST fault with the lowest ghost corner, and one in
progress does neither. With none, the episode is over. A ghost corner is a position of the geometry that makes, with
another row and another column of it, four crossings of which at least three read closed; with diodes fitted there is
none. A pass is due in a RUNNING lane with rows when its pass timer's time has been reached; the rollover count is the
number of held keys of a key class. -/
def Obligations.PassFollowsDebounceTable : Prop :=
  ((∀ (s : State) (l : LaneId), passDue s l = true ↔ (s.lane l).run = .running ∧ 1 ≤ (s.lane l).cfg.rows ∧
    ∃ due, (s.lane l).passTimer = some due ∧ due ≤ s.elapsed) ∧
  (∀ L : Lane, rolloverCount L = L.held.countP (fun h => decide (h.cls ≠ .lockContact ∧ h.cls ≠ .ignore)) ∧
    ∀ p : Fin 128, keyAt L p = L.keys[p] ∧ keymapAt L p = L.keymap[p]) ∧
  ∀ (l : LaneId) (closed : BitVec 128) (s : State), passDue s l = true → ∃ t, exec (.samplePassEnd l closed) s = .next t ∧
    ∀ p, p < 128 →
    let L := s.lane l
    let d := L.cfg.pressCount
    let u := L.cfg.releaseCount
    let reads := effectiveClosed L.cfg closed p (keyAt L p) = true
    let ignored := (keymapAt L p).cls = .ignore
    let completed := keyAt (t.lane l) p = .down ∨ keyAt (t.lane l) p = .pressPending d true
    (keyAt L p = .up → ignored ∨ ¬reads → keyAt (t.lane l) p = .up) ∧
      (keyAt L p = .up → ¬ignored → reads → 1 < d → keyAt (t.lane l) p = .pressPending 1 false) ∧
      (keyAt L p = .up → ¬ignored → reads → d ≤ 1 → completed) ∧
      (∀ k h, keyAt L p = .pressPending k h → ignored ∨ ¬reads → keyAt (t.lane l) p = .up) ∧
      (∀ k, keyAt L p = .pressPending k false → ¬ignored → reads → k + 1 < d →
        keyAt (t.lane l) p = .pressPending (k + 1) false) ∧
      (∀ k h, keyAt L p = .pressPending k h → ¬ignored → reads → h = true ∨ d ≤ k + 1 → completed) ∧
      (keyAt L p = .down → reads → keyAt (t.lane l) p = .down) ∧
      (keyAt L p = .down → ¬reads → keyAt (t.lane l) p = if u ≤ 1 then .up else .releasePending 1) ∧
      (∀ k, keyAt L p = .releasePending k → reads → keyAt (t.lane l) p = .down) ∧
      (∀ k, keyAt L p = .releasePending k → ¬reads →
        keyAt (t.lane l) p = if u ≤ k + 1 then .up else .releasePending (k + 1))) ∧
  (∀ (l : LaneId) (closed : BitVec 128) (s : State) (p : Nat), passDue s l = true → p < 128 →
    let L := s.lane l
    let d := L.cfg.pressCount
    effectiveClosed L.cfg closed p (keyAt L p) = true → (keymapAt L p).cls ≠ .ignore →
    (keyAt L p = .up ∧ d ≤ 1 ∨ ∃ k h, keyAt L p = .pressPending k h ∧ (h = true ∨ d ≤ k + 1)) →
    (∀ q, q < p → (walkStep L closed q).1 = keyAt L q) →
    ∃ t, exec (.samplePassEnd l closed) s = .next t ∧
      keyAt (t.lane l) p =
        if (keymapAt L p).cls = .lockContact ∨ rolloverCount L < L.cfg.rollover then .down else .pressPending d true) ∧
  (∀ (l : LaneId) (closed : BitVec 128) (s : State) (p : Nat), p < 128 →
    let L := s.lane l
    let d := L.cfg.pressCount
    let becomes := fun (k : KeyState) => s.modLane l fun L => { L with keys := L.keys.setIfInBounds p k }
    let room := (keymapAt L p).cls = .lockContact ∨ rolloverCount L < L.cfg.rollover
    let fresh := keyAt L p = .up ∧ d ≤ 1 ∨ ∃ k, keyAt L p = .pressPending k false ∧ d ≤ k + 1
    let waits := keyAt L p = .pressPending d true
    effectiveClosed L.cfg closed p (keyAt L p) = true → (keymapAt L p).cls ≠ .ignore →
    (fresh ∨ waits → room → visit l closed s p = press l p (becomes .down)) ∧
      (fresh → ¬room → visit l closed s p = count l .rolloverBlocked (becomes (.pressPending d true))) ∧
      (waits → ¬room → visit l closed s p = s)) ∧
  ((∀ (l : LaneId) (closed : BitVec 128) (s : State), passDue s l = true → ∃ t, exec (.samplePassEnd l closed) s = .next t ∧
    (lowestGhost (s.lane l).cfg closed = none →
      (t.lane l).ghost = false ∧ (t.lane l).fault = (s.lane l).fault ∧ (t.lane l).counters[3] = (s.lane l).counters[3]) ∧
    (∀ p, lowestGhost (s.lane l).cfg closed = some p → (s.lane l).ghost = true →
      (t.lane l).ghost = true ∧ (t.lane l).fault = (s.lane l).fault ∧ (t.lane l).counters[3] = (s.lane l).counters[3]) ∧
    (∀ p, lowestGhost (s.lane l).cfg closed = some p → (s.lane l).ghost = false →
      (t.lane l).ghost = true ∧ (t.lane l).counters[3] = (s.lane l).counters[3] + 1 ∧
        (t.lane l).fault =
          if (s.lane l).fault.locked = true then
            { (s.lane l).fault with further := min ((s.lane l).fault.further + 1) 255 }
          else
            { locked := true, kind := .ghost, source := .keyboard, time := s.clock, detail := BitVec.ofNat 16 p, further := 0 })) ∧
  (∀ (cfg : LaneConfig) (closed : BitVec 128), cfg.rows ≤ 8 → cfg.cols ≤ 16 →
    (cfg.diodes = true → lowestGhost cfg closed = none) ∧
      (cfg.diodes = false → lowestGhost cfg closed = none → ∀ p, ¬GhostCorner cfg closed p) ∧
      (∀ p, lowestGhost cfg closed = some p → GhostCorner cfg closed p ∧ ∀ q, q < p → ¬GhostCorner cfg closed q) ∧
      ∀ p k, effectiveClosed cfg closed p k = true ↔
        p / 16 < cfg.rows ∧ p % 16 < cfg.cols ∧ closed.getLsbD p = true ∧
          ¬(cfg.diodes = false ∧ (k = .up ∨ ∃ n waits, k = .pressPending n waits) ∧ GhostCorner cfg closed p)))

/-- The hand-over of a press of a NORMAL position takes the layer from the held SHIFT keys and the code of that layer,
puts the key at the end of the held-key list with its elapsed mark, offers KEY_DOWN with that layer, increments
keys_accepted, and makes it the repeating key, due one typematic delay on, if its repeat flag is on (and leaves none
repeating if not). A press of a SHIFT, DRAWER or CLEAR_RECENT position is captured, offered and counted alike, and
ends any repeat. A DRAWER press then kicks, with local kick on, exactly where a host KICK would be accepted (RUNNING,
INH_N released, lock position allowing, drawer in SHUT), and otherwise does no more; a CLEAR_RECENT press then empties
the recent-code table and has the waiting head attempted. A press of a LOCK_CONTACT joins the held-key list with its
lock index, makes no record and no count, and leaves the repeating key. The hand-over of the release of a position in
the held-key list offers, for a key class, a KEY_UP with the captured code and layer and the elapsed time since the
press mark, saturating at 65,535, and nothing for a lock contact. The position leaves the held-key list, and its
repeat, if it is the repeating key, ends. A due SAMPLE_PASS_END moves the pass timer on and releases the last row,
does the ghost analysis, walks positions 0 to 127 in ascending order, each transition handed over before the next, and
ends with the notice; one not due does nothing. In the walk a completed release puts its position UP and is handed
over, a quiet transition only changes the position's state, and a position outside these and the presses is none. By
the model's choice the lock position stays through the walk and changes at the notice alone (log entry 30), a
SAMPLE_PASS_END not due does nothing (log entry 3), and the row released is the last one driven in an idle step (log
entry 12). A lock index is the base code (log entry 28). -/
def Obligations.PressAndReleaseHandedOver : Prop :=
  (∀ (l : LaneId) (p : Nat) (s : State), (keymapAt (s.lane l) p).cls = .normal →
    let e := keymapAt (s.lane l) p
    let layer := (s.lane l).held.any fun h => decide (h.cls = .shift)
    let code := if layer then e.shifted else e.base
    press l p s =
      (count l .keysAccepted
        (offer l (.keyDown p code .normal) { layer := layer }
          (s.modLane l fun L =>
            { L with held := L.held ++
                [{ pos := p, cls := .normal, code := code, layer := layer, repeats := e.repeats, mark := s.elapsed }] }))).modLane l
        fun L => { L with
          repeating := if e.repeats = true then
              some { pos := p, number := 0, due := s.elapsed + 10 * L.cfg.typeDelay }
            else none }) ∧
  (∀ (l : LaneId) (p : Nat) (s : State),
    let e := keymapAt (s.lane l) p
    let D := (s.lane l).drawer
    let layer := (s.lane l).held.any fun h => decide (h.cls = .shift)
    let code := if layer then e.shifted else e.base
    let keyed :=
      (count l .keysAccepted
        (offer l (.keyDown p code e.cls) { layer := layer }
          (s.modLane l fun L =>
            { L with held := L.held ++
                [{ pos := p, cls := e.cls, code := code, layer := layer, repeats := e.repeats, mark := s.elapsed }] }))).modLane l
        fun L => { L with repeating := none }
    (e.cls = .shift → press l p s = keyed) ∧
    (e.cls = .drawer →
      ((D.localKick = true ∧ (s.lane l).run = .running ∧ s.inhibit = false ∧ kickAllowed (s.lane l) = true ∧ D.st = .shut) →
        press l p s = keyed.modLane l fun L =>
          { L with drawer := { D with st := .kickPulse, tries := 1, kick := true
                                      pulse := some (s.elapsed + D.active.width)
                                      retry := some (s.elapsed + D.active.retryPeriod) } }) ∧
      (¬(D.localKick = true ∧ (s.lane l).run = .running ∧ s.inhibit = false ∧ kickAllowed (s.lane l) = true ∧ D.st = .shut) →
        press l p s = keyed)) ∧
    (e.cls = .clearRecent →
      let emptied := keyed.modLane l fun L => { L with recent := [] }
      press l p s = attemptChain l true emptied ∧
        ((s.lane l).portA.slot = none → (s.lane l).portB.slot = none → press l p s = emptied)) ∧
    (e.cls = .lockContact →
      press l p s = s.modLane l fun L =>
        { L with held := L.held ++
            [{ pos := p, cls := .lockContact, code := e.base, layer := false, repeats := false, mark := s.elapsed }] })) ∧
  (∀ (l : LaneId) (h : HeldKey) (s : State), heldFind (s.lane l) h.pos = some h →
    release l h.pos s =
      (if h.cls ≠ .lockContact ∧ h.cls ≠ .ignore then
          offer l (.keyUp h.pos h.code (min (s.elapsed - h.mark) 65535)) { layer := h.layer } s
        else s).modLane l fun L =>
          { L with held := L.held.filter fun k => decide (k.pos ≠ h.pos)
                   repeating := L.repeating.filter fun r => decide (r.pos ≠ h.pos) }) ∧
  ((∀ (l : LaneId) (closed : BitVec 128) (s : State),
    let begun := s.modLane l fun L =>
      { L with passTimer := L.passTimer.map (· + L.cfg.period), contacts := closed, rowTurn := none }
    let analysed := match lowestGhost (s.lane l).cfg closed with
      | none => begun.modLane l fun L => { L with ghost := false }
      | some p =>
        if (s.lane l).ghost = true then begun
        else offerFault l .ghost .keyboard p (count l .ghostEpisodes (begun.modLane l fun L => { L with ghost := true }))
    (passDue s l = true →
      exec (.samplePassEnd l closed) s = .next (settle (notice l ((List.range 128).foldl (visit l closed) analysed)))) ∧
      (passDue s l = false → exec (.samplePassEnd l closed) s = .next (settle s))) ∧
  (∀ (l : LaneId) (closed : BitVec 128) (s : State) (p : Nat), p < 128 →
    let L := s.lane l
    let u := L.cfg.releaseCount
    let becomes := fun (k : KeyState) => s.modLane l fun L => { L with keys := L.keys.setIfInBounds p k }
    (effectiveClosed L.cfg closed p (keyAt L p) = false →
      (keyAt L p = .down ∧ u ≤ 1 ∨ ∃ k, keyAt L p = .releasePending k ∧ u ≤ k + 1) →
      visit l closed s p = release l p (becomes .up)) ∧
    ((walkStep L closed p).2 = .quiet → visit l closed s p = becomes (walkStep L closed p).1) ∧
    ((walkStep L closed p).2 = .release → effectiveClosed L.cfg closed p (keyAt L p) = false ∧
      (keyAt L p = .down ∧ u ≤ 1 ∨ ∃ k, keyAt L p = .releasePending k ∧ u ≤ k + 1))))

/-- At an end-of-pass notice, after the work of the lock position, a repeating key whose due mark has been reached
takes the next repeat number, saturating at 255, and its due mark rises by the typematic interval. Out of store-high,
as the last recompute before the notice left it, a KEY_REPEAT with the captured code and layer is offered; in store-
high none is, and repeats_withheld is incremented. A mark not reached, or no repeating key, makes no repeat. -/
def Obligations.RepeatAtNotice : Prop :=
  (∀ (L : Lane) (p : Nat), heldFind L p = L.held.find? fun h => decide (h.pos = p)) ∧
  (∀ (l : LaneId) (s : State), (s.lane l).repeating = none → notice l s = lockNotice l s) ∧
  ∀ (l : LaneId) (r : Repeating) (h : HeldKey) (s : State), (s.lane l).repeating = some r →
    heldFind (s.lane l) r.pos = some h →
    let next := (lockNotice l s).modLane l fun L =>
      { L with repeating := some { pos := r.pos, number := min (r.number + 1) 255, due := r.due + 10 * L.cfg.typeInterval } }
    (s.elapsed < r.due → notice l s = lockNotice l s) ∧
      (r.due ≤ s.elapsed → (s.lane l).storeHigh = true → notice l s = count l .repeatsWithheld next) ∧
      (r.due ≤ s.elapsed → (s.lane l).storeHigh = false →
        notice l s = offer l (.keyRepeat r.pos h.code (min (r.number + 1) 255)) { layer := h.layer } next)

/-- After a due pass end the lock position is NONE if the keymap holds no lock contact, the index of the one held
contact if exactly one is held, and IN_TRANSIT otherwise, by the held-key list after the pass; and a defined index is
the last defined lock position. At the notice, with no record waiting in a slot: a defined index that differs from the
last defined one, or follows none, offers a LOCK record with the new index and the previous one, raises LOCK whether
it is admitted or lost, and becomes the last defined one; an equal index, IN_TRANSIT or NONE makes no record and no
flag. A changed position reaches the drawer alone besides (R153), and a position that stays changes no more. With a
record waiting, the attempt on it follows the LOCK record. That the position changes at the notice is the model's
choice between R34 and R51 (log entry 30). A lock index is the base code (log entry 28). -/
def Obligations.LockPositionAtNotice : Prop :=
  (∀ (l : LaneId) (closed : BitVec 128) (s : State), passDue s l = true → ∃ t, exec (.samplePassEnd l closed) s = .next t ∧
    let contacts := (t.lane l).held.filter fun h => decide (h.cls = .lockContact)
    (hasLockContact (s.lane l) = false → (t.lane l).lock = .noLock) ∧
      (hasLockContact (s.lane l) = true → contacts.length ≠ 1 → (t.lane l).lock = .inTransit) ∧
      (∀ h, hasLockContact (s.lane l) = true → contacts = [h] →
        (t.lane l).lock = .index h.code.toNat ∧ (t.lane l).lastLock = some h.code.toNat)) ∧
  ((∀ L : Lane, (hasLockContact L = true ↔ ∃ p : Fin 128, L.keymap[p].cls = .lockContact) ∧
    let contacts := L.held.filter fun h => decide (h.cls = .lockContact)
    (hasLockContact L = false → computeLock L = .noLock) ∧
      (hasLockContact L = true → contacts.length ≠ 1 → computeLock L = .inTransit) ∧
      ∀ h, hasLockContact L = true → contacts = [h] → computeLock L = .index h.code.toNat) ∧
  ∀ (l : LaneId) (s : State),
    let new := computeLock (s.lane l)
    let at_ := s.modLane l fun L => { L with lock := new }
    let given := fun (i : Nat) =>
      (raise l flagLock (offer l (.lock i (s.lane l).lastLock) {} at_)).modLane l fun L => { L with lastLock := some i }
    let reached := fun (t : State) =>
      if new = (s.lane l).lock then t
      else (attemptChain l true t).modLane l fun L => { L with drawer := pauseOpen s.elapsed (alarmPaused L) L.drawer }
    (∀ i, new = .index i → (s.lane l).lastLock ≠ some i → lockNotice l s = reached (given i)) ∧
      (∀ i, new = .index i → (s.lane l).lastLock = some i → lockNotice l s = reached at_) ∧
      (new = .inTransit ∨ new = .noLock → lockNotice l s = reached at_) ∧
      ((s.lane l).portA.slot = none → (s.lane l).portB.slot = none →
        attemptChain l true at_ = at_ ∧ ∀ i, attemptChain l true (given i) = given i))

/-- A KEYMAP_WRITE of 1 to 16 entries with defined values, inside the keymap, touching no lock contact entry of a
RUNNING lane, is answered OK: each written position takes its entry, with class, base code, shifted code and repeat
flag at their places in the body, and every other position keeps its own. Nothing else of the part changes.
KEYMAP_WRITE is refused, in this order: BAD_LANE for a lane above 3; BAD_LENGTH for no lane, a count of 0 or above 16,
or a body of another length than the count gives; BAD_VALUE for positions past 127 or an entry with an undefined
class, repeat flag or lock index; STATE in a RUNNING lane where an old or a new class is LOCK_CONTACT. A refused
request writes nothing. A KEYMAP_READ of 1 to 16 entries inside the keymap is answered OK with the count and the
entries in ascending position order, each as class, base code, shifted code and repeat flag, and changes nothing; any
other count or range is refused BAD_VALUE. -/
def Obligations.KeymapWrittenAndRead : Prop :=
  (∀ (l : LaneId) (body : List Byte) (s : State), Serves s → body.head? = some (laneByte l) →
    1 ≤ u8 body 2 → u8 body 2 ≤ 16 → body.length = 3 + 6 * u8 body 2 → u8 body 1 + u8 body 2 ≤ 128 →
    (∀ j, j < u8 body 2 → ¬KeymapEntryBad body j) →
    ((s.lane l).run = .ready ∨ ∀ j, j < u8 body 2 →
      (keymapAt (s.lane l) (u8 body 1 + j)).cls ≠ .lockContact ∧ u8 body (3 + 6 * j) ≠ 3) →
    ∃ map : Vector KeymapEntry 128,
      exec (.keymapWrite body) s =
        .next (replied 0x20 body [0x00] ((received s).modLane l fun L => { L with keymap := map })) ∧
      ∀ p : Fin 128,
        if u8 body 1 ≤ p.val ∧ p.val < u8 body 1 + u8 body 2 then
          let at_ := 3 + 6 * (p.val - u8 body 1)
          (u8 body at_, map[p].cls) ∈ classValues ∧ map[p].base = BitVec.ofNat 16 (u16 body (at_ + 1)) ∧
            map[p].shifted = BitVec.ofNat 16 (u16 body (at_ + 3)) ∧ map[p].repeats = decide (u8 body (at_ + 5) = 1)
        else map[p] = (s.lane l).keymap[p]) ∧
  (∀ s : State, Serves s →
    (∀ (b : Byte) (rest : List Byte), 4 ≤ b.toNat → RefusedAs (.keymapWrite (b :: rest)) 0x02 s) ∧
    RefusedAs (.keymapWrite []) 0x03 s ∧
    (∀ (l : LaneId) (body : List Byte), body.head? = some (laneByte l) →
      (u8 body 2 = 0 ∨ 16 < u8 body 2 ∨ body.length ≠ 3 + 6 * u8 body 2 → RefusedAs (.keymapWrite body) 0x03 s) ∧
      (1 ≤ u8 body 2 → u8 body 2 ≤ 16 → body.length = 3 + 6 * u8 body 2 →
        (128 < u8 body 1 + u8 body 2 ∨ (∃ j, j < u8 body 2 ∧ KeymapEntryBad body j) → RefusedAs (.keymapWrite body) 0x04 s) ∧
        (u8 body 1 + u8 body 2 ≤ 128 → (∀ j, j < u8 body 2 → ¬KeymapEntryBad body j) → (s.lane l).run = .running →
          (∃ j, j < u8 body 2 ∧ (u8 body (3 + 6 * j) = 3 ∨ (keymapAt (s.lane l) (u8 body 1 + j)).cls = .lockContact)) →
          RefusedAs (.keymapWrite body) 0x06 s)))) ∧
  ((∀ e : KeymapEntry, ∃ c : Byte, (c.toNat, e.cls) ∈ classValues ∧
    entryBytes e = c :: le16 e.base.toNat ++ le16 e.shifted.toNat ++ [if e.repeats then 0x01 else 0x00]) ∧
  ∀ (l : LaneId) (first n : Byte) (s : State), Serves s →
    (1 ≤ n.toNat → n.toNat ≤ 16 → first.toNat + n.toNat ≤ 128 →
      exec (.keymapRead [laneByte l, first, n]) s =
        .next (replied 0x21 [laneByte l, first, n]
          (0x00 :: n :: (List.range n.toNat).flatMap fun j => entryBytes (keymapAt (s.lane l) (first.toNat + j)))
          (received s))) ∧
    (n.toNat = 0 ∨ 16 < n.toNat ∨ 128 < first.toNat + n.toNat →
      RefusedAs (.keymapRead [laneByte l, first, n]) 0x04 s))

/-- A PORT_CONFIG with defined fields, of a READY lane, gives the named port the configuration of its body with a gap
timeout of 1 to 4 raised to 5 and a reply timeout of 0 raised to 1, answered CLAMPED if either changed and OK
otherwise; nothing else changes but the HOLD outputs, and the HOLD pin is then at the active level of the new
polarity. The pin is high while HOLD is asserted active high or released active low, and low otherwise. In a RUNNING
lane it is refused STATE, and BAD_VALUE with byte fields that break R58: data bits 7 and a present byte field or the
terminator above 7Fh, or a prefix or a reply mark present with the value of the terminator. An undefined port, enabled
field, rate code, data bits, parity, presence byte or HOLD polarity is BAD_VALUE in either lane state, and every other
body gives a port, and a configuration with each field at its place in the body. -/
def Obligations.PortConfigTaken : Prop :=
  (∀ P : Port, holdPin P = if P.cfg.holdActiveLow then !P.hold else P.hold) ∧
  (∀ (l : LaneId) (body : List Byte) (s : State), Serves s → body.length = 15 → body.head? = some (laneByte l) →
    let undefined := 1 < u8 body 1 ∨ 1 < u8 body 2 ∨ 7 < u8 body 3 ∨ (u8 body 4 ≠ 7 ∧ u8 body 4 ≠ 8) ∨ 2 < u8 body 5 ∨
      16 ≤ u8 body 6 ∨ 1 < u8 body 14
    (undefined → RefusedAs (.portConfig body) 0x04 s) ∧
      (¬undefined →
        portOf body 1 = some (if u8 body 1 = 0 then .A else .B) ∧
        portGiven body = some
          { enabled := decide (u8 body 2 = 1), rate := u8 body 3, sevenBits := decide (u8 body 4 = 7)
            parity := if u8 body 5 = 0 then .none else if u8 body 5 = 1 then .even else .odd
            pre := { present := (u8 body 6).testBit 0, value := body.getD 7 0 }, terminator := body.getD 8 0
            replyMark := { present := (u8 body 6).testBit 1, value := body.getD 9 0 }, gapTimeout := u8 body 10
            goodTone := { present := (u8 body 6).testBit 2, value := body.getD 11 0 }
            badTone := { present := (u8 body 6).testBit 3, value := body.getD 12 0 }, replyTimeout := u8 body 13
            holdActiveLow := decide (u8 body 14 = 1) })) ∧
  ∀ (l : LaneId) (p : PortId) (body : List Byte) (c : PortConfig) (s : State), Serves s → body.length = 15 →
    body.head? = some (laneByte l) → portOf body 1 = some p → portGiven body = some c →
    let taken := { c with
      gapTimeout := if 1 ≤ c.gapTimeout ∧ c.gapTimeout < 5 then 5 else c.gapTimeout
      replyTimeout := if c.replyTimeout = 0 then 1 else c.replyTimeout }
    (BreaksByteFields c → RefusedAs (.portConfig body) 0x04 s) ∧
      (¬BreaksByteFields c → (s.lane l).run = .running → RefusedAs (.portConfig body) 0x06 s) ∧
      (¬BreaksByteFields c → (s.lane l).run = .ready →
        exec (.portConfig body) s =
          .next (replied 0x28 body [if taken = c then 0x00 else 0x01]
            ((received s).modPort l p fun P => { P with cfg := taken }))) ∧
      (¬BreaksByteFields c → (s.lane l).run = .ready →
        ∃ t, exec (.portConfig body) s = .next t ∧ holdPin (t.port l p) = !c.holdActiveLow)

/-- A SCANNER_SEND to an enabled port of a RUNNING lane, whose 1 to 6 bytes fit the free space of the transmit queue
and whose expect flag, if on, meets a reply mark and no outstanding expectation, is answered OK: the bytes join the
tail in order, the last one marked if the flag is on, and the transmitter begins the oldest byte if none is in
transmission. With the flag on the expectation state becomes AWAITING_SEND; with it off TIMED_OUT_UNANSWERED ends and
every other state is kept. Nothing else changes. SCANNER_SEND is refused, in this order: BAD_LANE for a lane above 3;
BAD_LENGTH for no lane, a byte count of 0 or above 6, or a body of another length than the count gives; BAD_VALUE for
an undefined port or expect flag; STATE in a lane not RUNNING or a disabled port; BAD_VALUE for the flag on without a
reply mark; BUSY where the bytes exceed the free space or the flag is on with an expectation outstanding. A refused
request changes nothing. A byte in transmission keeps its value and format (log entry 27). -/
def Obligations.ScannerSendQueued : Prop :=
  ((∀ P : Port, beginNext P = if P.tx = none then nextByte P else P) ∧
  ∀ (l : LaneId) (p : PortId) (flag : Bool) (bytes : List Byte) (s : State), Serves s → (s.lane l).run = .running →
    (s.port l p).cfg.enabled = true → 1 ≤ bytes.length → bytes.length ≤ 6 →
    (s.port l p).txq.length + bytes.length ≤ 8 →
    (flag = true → (s.port l p).cfg.replyMark.present = true ∧ (s.port l p).expect ≠ .awaitingSend ∧ (s.port l p).expect ≠ .timing) →
    let body := laneByte l :: (if p = .A then 0x00 else 0x01) :: (if flag then 0x01 else 0x00) :: byteOf bytes.length :: bytes
    exec (.scannerSend body) s =
      .next (replied 0x29 body [0x00] ((received s).modPort l p fun P =>
        beginNext { P with
          txq := P.txq ++ bytes.dropLast.map (fun b => { value := b }) ++ [{ value := bytes.getLastD 0, last := flag }]
          expect := if flag then .awaitingSend else if P.expect = .timedOut then .idle else P.expect }))) ∧
  (∀ s : State, Serves s →
    (∀ (b : Byte) (rest : List Byte), 4 ≤ b.toNat → RefusedAs (.scannerSend (b :: rest)) 0x02 s) ∧
    RefusedAs (.scannerSend []) 0x03 s ∧
    (∀ (l : LaneId) (body : List Byte), body.head? = some (laneByte l) →
      (u8 body 3 = 0 ∨ 6 < u8 body 3 ∨ body.length ≠ 4 + u8 body 3 → RefusedAs (.scannerSend body) 0x03 s) ∧
      (1 ≤ u8 body 3 → u8 body 3 ≤ 6 → body.length = 4 + u8 body 3 →
        (1 < u8 body 1 ∨ 1 < u8 body 2 → RefusedAs (.scannerSend body) 0x04 s) ∧
        (∀ p : PortId, u8 body 1 = (if p = .A then 0 else 1) → u8 body 2 ≤ 1 →
          let P := s.port l p
          let full := P.txq.length + u8 body 3 > 8
          let waits := u8 body 2 = 1 ∧ (P.expect = .awaitingSend ∨ P.expect = .timing)
          ((s.lane l).run = .ready ∨ P.cfg.enabled = false → RefusedAs (.scannerSend body) 0x06 s) ∧
          ((s.lane l).run = .running → P.cfg.enabled = true →
            (u8 body 2 = 1 → P.cfg.replyMark.present = false → RefusedAs (.scannerSend body) 0x04 s) ∧
            ((u8 body 2 = 0 ∨ P.cfg.replyMark.present = true) → full ∨ waits → RefusedAs (.scannerSend body) 0x07 s))))))

/-- A character received while its lane is READY or its port disabled, or whose start bit began before an accepted
START, is discarded whatever its value and quality: no buffer, fault, count or record changes, and only the marks of
the character in progress are cleared. On a port of 7 data bits the highest bit of the value given is not read (log
entry 17). A break is taken as a character of value 00h with a framing error, whatever value is given. The marks are
log entry 11. -/
def Obligations.CharactersDiscardedOrMasked : Prop :=
  ∀ (l : LaneId) (p : PortId) (c : ScanChar) (s : State),
    ((s.lane l).run = .ready ∨ (s.port l p).cfg.enabled = false ∨ (s.port l p).charDrop = true →
      exec (.scannerCharacterReceived l p c) s =
        .next (settle (s.modPort l p fun P => { P with charStart := false, charDrop := false }))) ∧
    ((s.port l p).cfg.sevenBits = true →
      exec (.scannerCharacterReceived l p c) s =
        exec (.scannerCharacterReceived l p { value := c.value &&& 0x7F, quality := c.quality }) s) ∧
    exec (.scannerCharacterReceived l p { value := c.value, quality := .brk }) s =
      exec (.scannerCharacterReceived l p { value := 0x00, quality := .framing }) s

/-- A character of the port's data bits received by a listening port in ASSEMBLY, under 48 bytes held: a good byte
that is not the terminator is appended, and a damaged one of either quality is appended and sets the damaged mark, the
first of the record also raising LINE_FRAMING or LINE_PARITY with its value. The gap timer restarts (a gap timeout of
0 leaves it stopped), and the first byte of a record keeps whether it was damaged. Nothing else changes. A good
terminator with nothing held returns the receiver to HUNT. A parity error needs a parity configured. The marks of a
character in progress, which its completion clears, are log entry 11; the data bits and qualities are log entry 17. -/
def Obligations.CharacterAppended : Prop :=
  ∀ (l : LaneId) (p : PortId) (v : Byte) (s : State), (s.lane l).run = .running → (s.port l p).cfg.enabled = true →
    (s.port l p).charDrop = false → (s.port l p).rx = .assembly → (s.port l p).buf.length < 48 →
    DataBits (s.port l p).cfg v →
    let appended := fun (bad : Bool) (P : Port) =>
      { P with charStart := false, charDrop := false, buf := P.buf ++ [v], damaged := P.damaged || bad
               firstDamaged := if P.buf = [] then bad else P.firstDamaged
               lineFault := P.lineFault || bad, gap := gapFrom s.elapsed P.cfg }
    (v = (s.port l p).cfg.terminator → (s.port l p).buf = [] →
      exec (.scannerCharacterReceived l p { value := v, quality := .good }) s =
        .next (settle (s.modPort l p completedPort))) ∧
    (v ≠ (s.port l p).cfg.terminator →
      exec (.scannerCharacterReceived l p { value := v, quality := .good }) s =
        .next (settle (s.modPort l p (appended false)))) ∧
      ((s.port l p).lineFault = true →
        ((s.port l p).cfg.parity ≠ .none →
          exec (.scannerCharacterReceived l p { value := v, quality := .parity }) s =
            .next (settle (s.modPort l p (appended true)))) ∧
        exec (.scannerCharacterReceived l p { value := v, quality := .framing }) s =
          .next (settle (s.modPort l p (appended true)))) ∧
      ((s.port l p).lineFault = false →
        ((s.port l p).cfg.parity ≠ .none →
          exec (.scannerCharacterReceived l p { value := v, quality := .parity }) s =
            .next (settle (offerFault l .lineParity (.port p) v.toNat (s.modPort l p (appended true))))) ∧
        exec (.scannerCharacterReceived l p { value := v, quality := .framing }) s =
          .next (settle (offerFault l .lineFraming (.port p) v.toNat (s.modPort l p (appended true)))))

/-- For a listening port and a character of its data bits: the configured prefix, received good in HUNT, starts an
empty record and is not kept, and any other good byte there, and every damaged one, is discarded; a 49th byte, good or
damaged, raises RECORD_TOO_LONG with the first code byte, discards the buffer and enters SKIP with the gap timer
running; a record that is not reply-marked and completes while its slot is occupied is discarded, raises
RECORD_OVERRUN with its length and counts a loss, the record in the slot kept. With no prefix configured, a good
terminator in HUNT is discarded, and any other character starts a record as its first code byte; a damaged one sets
the damaged mark and raises LINE_FRAMING or LINE_PARITY with its value. In SKIP a good terminator returns the receiver
to HUNT, and every other character, a damaged one equal to the terminator included, is discarded and restarts the gap
timer. A parity error needs a parity configured (log entry 17). The marks of a character in progress, which its
completion clears, are log entry 11. -/
def Obligations.HuntFortyNinthByteAndOverrun : Prop :=
  ∀ (l : LaneId) (p : PortId) (v : Byte) (s : State), (s.lane l).run = .running → (s.port l p).cfg.enabled = true →
    (s.port l p).charDrop = false → DataBits (s.port l p).cfg v →
    let c : ScanChar := { value := v, quality := .good }
    let damaged := fun q : Quality => ({ value := v, quality := q } : ScanChar)
    let idlePort := fun (P : Port) =>
      { P with charStart := false, charDrop := false, buf := [], damaged := false, firstDamaged := false, lineFault := false }
    ((s.port l p).rx = .hunt → (s.port l p).cfg.pre.present = true →
      (v = (s.port l p).cfg.pre.value →
        exec (.scannerCharacterReceived l p c) s =
          .next (settle (s.modPort l p fun P =>
            { idlePort P with rx := .assembly, gap := gapFrom s.elapsed P.cfg }))) ∧
      (v ≠ (s.port l p).cfg.pre.value →
        exec (.scannerCharacterReceived l p c) s =
          .next (settle (s.modPort l p fun P => { P with charStart := false, charDrop := false }))) ∧
      (∀ q kind, Damages (s.port l p).cfg q kind →
        exec (.scannerCharacterReceived l p (damaged q)) s =
          .next (settle (s.modPort l p fun P => { P with charStart := false, charDrop := false })))) ∧
    (∀ first rest, (s.port l p).rx = .assembly → (s.port l p).buf = first :: rest → rest.length = 47 →
      let skips := settle ((offerFault l .recordTooLong (.port p) first.toNat s).modPort l p fun P =>
        { idlePort P with rx := .skip, gap := gapFrom s.elapsed P.cfg })
      (v ≠ (s.port l p).cfg.terminator → exec (.scannerCharacterReceived l p c) s = .next skips) ∧
      ∀ q kind, Damages (s.port l p).cfg q kind → exec (.scannerCharacterReceived l p (damaged q)) s = .next skips) ∧
    (∀ held, (s.port l p).rx = .assembly → (s.port l p).buf ≠ [] → v = (s.port l p).cfg.terminator →
      ¬ReplyMarked (s.port l p) → (s.port l p).slot = some held →
      exec (.scannerCharacterReceived l p c) s =
        .next (settle (lose l (offerFault l .recordOverrun (.port p) (s.port l p).buf.length
          (s.modPort l p fun P => { idlePort P with rx := .hunt, gap := none }))))) ∧
    ((s.port l p).rx = .hunt → (s.port l p).cfg.pre.present = false →
      (v = (s.port l p).cfg.terminator →
        exec (.scannerCharacterReceived l p c) s =
          .next (settle (s.modPort l p fun P => { P with charStart := false, charDrop := false }))) ∧
      (v ≠ (s.port l p).cfg.terminator →
        exec (.scannerCharacterReceived l p c) s =
          .next (settle (s.modPort l p fun P =>
            { idlePort P with rx := .assembly, buf := [v], gap := gapFrom s.elapsed P.cfg }))) ∧
      (∀ q kind, Damages (s.port l p).cfg q kind →
        exec (.scannerCharacterReceived l p (damaged q)) s =
          .next (settle (offerFault l kind (.port p) v.toNat (s.modPort l p fun P =>
            { idlePort P with rx := .assembly, buf := [v], damaged := true, firstDamaged := true, lineFault := true
                              gap := gapFrom s.elapsed P.cfg }))))) ∧
    ((s.port l p).rx = .skip →
      let skipped := fun (P : Port) => { P with charStart := false, charDrop := false, gap := gapFrom s.elapsed P.cfg }
      (v = (s.port l p).cfg.terminator →
        exec (.scannerCharacterReceived l p c) s =
          .next (settle (s.modPort l p fun P => { idlePort P with rx := .hunt, gap := none }))) ∧
      (v ≠ (s.port l p).cfg.terminator →
        exec (.scannerCharacterReceived l p c) s = .next (settle (s.modPort l p skipped))) ∧
      ∀ q kind, Damages (s.port l p).cfg q kind →
        exec (.scannerCharacterReceived l p (damaged q)) s = .next (settle (s.modPort l p skipped)))

/-- A good terminator at a listening port completes an undamaged record that is not reply-marked, with both slots
empty; the lock position allows scanning, no Symbology Table entry matches the code, strict is off, the recent-code
table holds no such code, and its need fits the headroom. Then a SCAN record with the port, index 15 and the code,
stamped with the Device Clock and not delayed, joins the lane queue with the pending losses; the code enters the front
of the recent-code table, of which 8 entries are kept; scans_accepted rises; the slot stays empty and the receiver
hunts. -/
def Obligations.ScanAcceptedAtCompletion : Prop :=
  ∀ (l : LaneId) (p : PortId) (s : State), (s.lane l).run = .running → (s.port l p).cfg.enabled = true →
    (s.port l p).charDrop = false → DataBits (s.port l p).cfg (s.port l p).cfg.terminator → (s.port l p).rx = .assembly →
    (s.port l p).buf ≠ [] → (s.port l p).damaged = false → ¬ReplyMarked (s.port l p) →
    (s.lane l).portA.slot = none → (s.lane l).portB.slot = none → scanAllowed (s.lane l) = true →
    symbologyIndex s.symbology (s.port l p).buf = none → s.strict = false →
    (∀ e ∈ (s.lane l).recent, e.code ≠ (s.port l p).buf) →
    recordSlots (.scan p 15 (s.port l p).buf) ≤ headroom s l →
    ∃ t, exec (.scannerCharacterReceived l p { value := (s.port l p).cfg.terminator, quality := .good }) s = .next t ∧
      (t.lane l).queue = (s.lane l).queue ++ [stored s l (.scan p 15 (s.port l p).buf) {}] ∧
      (t.lane l).lost = 0 ∧
      (t.lane l).recent = ({ code := (s.port l p).buf, port := p, time := s.clock } :: (s.lane l).recent).take 8 ∧
      (t.lane l).counters = (s.lane l).counters.set 4 ((s.lane l).counters[4] + 1) ∧
      (t.port l p).slot = none ∧ (t.port l p).rx = .hunt ∧ (t.port l p).buf = []

/-- A reply-marked record given to the expectation logic: while an expectation is outstanding, SCANNER_REPLY is
offered with at most 6 bytes after the mark, truncated when bytes were dropped and damaged by its mark, SCANNER is
raised and the expectation ends with its timer stopped and its last byte unmarked; after a timeout it raises
REPLY_LATE and the state becomes NONE; with no expectation it raises REPLY_UNEXPECTED. The detail of both faults is
the number of bytes after the mark. A good terminator at a listening port in ASSEMBLY gives a record whose first byte
is a good byte equal to a configured reply mark to this logic, with its bytes and damaged mark, the port back in HUNT
with nothing held, and leaves both hand-off slots as they are, occupied or not; a first byte that was damaged is no
reply mark. When its time is reached, the gap timer's expiry in ASSEMBLY raises RECORD_FRAGMENT with the bytes held
and in SKIP raises nothing, and the receiver hunts with an empty buffer. A start bit stops the gap timer and begins a
character of its own. The end of a byte in transmission begins the oldest queued byte, if any; at the end of a marked
byte in AWAITING_SEND the reply timer starts too, giving TIMING. The reply timer's expiry in TIMING offers
SCANNER_TIMEOUT and REPLY_TIMEOUT with the timeout in ms, raises SCANNER, and gives TIMED_OUT_UNANSWERED. Nothing else
changes. A transmit pin rests high exactly when no byte is in transmission or queued. The marks that a start bit sets
and clears, so that its character is one of its own, are the model's (log entry 11), as are the transmit pin's rest
and the byte in transmission with the value and format it began with (log entries 15 and 27). -/
def Obligations.RepliesAndPortTimers : Prop :=
  (∀ (l : LaneId) (p : PortId) (code : List Byte) (damaged : Bool) (s : State),
    ((s.port l p).expect = .awaitingSend ∨ (s.port l p).expect = .timing →
      deliverReply l p code damaged s =
        (raise l flagScanner
          (offer l (.scannerReply p ((code.drop 1).take 6)) { truncated := decide (6 < (code.drop 1).length), damaged := damaged } s)).modPort l p
          fun P => { P with expect := .idle, replyTimer := none
                            txq := P.txq.map fun b => { b with last := false }
                            tx := P.tx.map fun b => { b with last := false } }) ∧
      ((s.port l p).expect = .timedOut →
        deliverReply l p code damaged s =
          (offerFault l .replyLate (.port p) (code.length - 1) s).modPort l p fun P => { P with expect := .idle }) ∧
      ((s.port l p).expect = .idle →
        deliverReply l p code damaged s = offerFault l .replyUnexpected (.port p) (code.length - 1) s)) ∧
  ((∀ (l : LaneId) (p : PortId) (s : State), (s.lane l).run = .running → (s.port l p).cfg.enabled = true →
    (s.port l p).charDrop = false → DataBits (s.port l p).cfg (s.port l p).cfg.terminator → (s.port l p).rx = .assembly →
    ReplyMarked (s.port l p) →
    let t := settle (deliverReply l p (s.port l p).buf (s.port l p).damaged (s.modPort l p completedPort))
    exec (.scannerCharacterReceived l p { value := (s.port l p).cfg.terminator, quality := .good }) s = .next t ∧
      (t.port l p).rx = .hunt ∧ (t.port l p).buf = [] ∧ ∀ q, (t.port l q).slot = (s.port l q).slot) ∧
  (∀ P : Port, P.firstDamaged = true → ¬ReplyMarked P)) ∧
  ((∀ P : Port, txRestsHigh P = true ↔ P.tx = none ∧ P.txq = []) ∧
  ∀ (l : LaneId) (p : PortId) (s : State),
    (∀ due, (s.lane l).run = .running → (s.port l p).cfg.enabled = true → (s.port l p).gap = some due → due ≤ s.elapsed →
      let hunting := fun (P : Port) =>
        { P with rx := .hunt, buf := [], damaged := false, firstDamaged := false, lineFault := false, gap := none }
      ((s.port l p).rx = .assembly →
        exec (.gapTimerExpiry l p) s =
          .next (settle ((offerFault l .recordFragment (.port p) (s.port l p).buf.length s).modPort l p hunting))) ∧
      ((s.port l p).rx = .skip → exec (.gapTimerExpiry l p) s = .next (settle (s.modPort l p hunting)))) ∧
    exec (.scannerStartBit l p) s = .next (settle (s.modPort l p fun P =>
      { P with gap := none, charStart := true, charDrop := false })) ∧
    (∀ sent, (s.port l p).tx = some sent →
      (sent.last = true → (s.port l p).expect = .awaitingSend →
        exec (.transmitByteSent l p) s =
          .next (settle (s.modPort l p fun P =>
            { nextByte P with expect := .timing, replyTimer := some (s.elapsed + 10 * P.cfg.replyTimeout) }))) ∧
      (sent.last = false ∨ (s.port l p).expect ≠ .awaitingSend →
        exec (.transmitByteSent l p) s = .next (settle (s.modPort l p nextByte)))) ∧
    (∀ due, (s.port l p).expect = .timing → (s.port l p).replyTimer = some due → due ≤ s.elapsed →
      exec (.replyTimerExpiry l p) s =
        .next (settle ((raise l flagScanner (offerFault l .replyTimeout (.port p) (10 * (s.port l p).cfg.replyTimeout)
          (offer l (.scannerTimeout p) {} s))).modPort l p fun P => { P with expect := .timedOut, replyTimer := none }))))

/-- A record of port p is rejected LOCKED with index 15 where the lock position holds scanning, whatever else holds;
then LINE_ERROR with index 15 if damaged; then, matching no entry, UNLISTED with index 15 under strict; a matched
record is rejected with the matched index for its length, a non-digit under a check rule, a data length below 2 under
a check rule, and a wrong check digit, in that order. Scanning is allowed at NONE, at an index in the scan lock mask,
and not in transit. The entry a code matches is the lowest present one whose mark is the code's first byte. A record
that passes steps 1 to 4 is judged as a duplicate with its matched index, or with 15 when it matches no entry and
strict is off; with no entry of its code it is accepted. A valid record that matches a recent-code entry not later
than it is suppressed exactly when the elapsed time is less than the same-port window for the entry's own port, or the
cross-port window for the other port; one earlier than the entry is accepted. The table of a suppressed record puts
the entry first with the record's time and the entry's own port, the others in order behind. An attempt on a record
whose need fits the headroom finishes: an accepted one is admitted as a SCAN record with its port, index, code and
completion time, its good-read tone is queued, scans_accepted rises and the code enters the recent-code table; a
rejected one as a SCAN_REJECT record of one slot with its reason and code length, its bad-read tone is queued and
scans_rejected rises, the table kept; a tone absent, or a transmit queue of 8 bytes, queues none. A need above the
headroom leaves the record waiting and changes nothing; a suppressed record makes no record and no tone, and its count
rises. The slot of a finished record empties. Times are compared as unsigned numbers (log entry 26). -/
def Obligations.ScreeningAndDuplicates : Prop :=
  (∀ (s : State) (L : Lane) (p : PortId) (r : SlotRecord),
    (scanAllowed L = false → screen s L p r = .reject .locked 15) ∧
    (scanAllowed L = true → r.damaged = true → screen s L p r = .reject .lineError 15) ∧
    (scanAllowed L = true → r.damaged = false → symbologyIndex s.symbology r.code = none → s.strict = true →
      screen s L p r = .reject .unlisted 15) ∧
    (∀ i : Fin 8, scanAllowed L = true → r.damaged = false → symbologyIndex s.symbology r.code = some i →
      let e := s.symbology[i]
      let data := r.code.drop 1
      let outside := data.length < e.minLen ∨ e.maxLen < data.length
      let digits := ∀ b ∈ data, 0x30 ≤ b.toNat ∧ b.toNat ≤ 0x39
      (outside → screen s L p r = .reject .length i.val) ∧
      (¬outside → e.rule ≠ .none → ¬digits → screen s L p r = .reject .notNumeric i.val) ∧
      (¬outside → e.rule ≠ .none → digits → data.length < 2 → screen s L p r = .reject .length i.val) ∧
      (¬outside → e.rule = .mod10w31 → digits → 2 ≤ data.length → checkPasses 3 1 data = false →
        screen s L p r = .reject .check i.val) ∧
      (¬outside → e.rule = .mod10w13 → digits → 2 ≤ data.length → checkPasses 1 3 data = false →
        screen s L p r = .reject .check i.val))) ∧
  ((∀ (table : List RecentEntry) (code : List Byte), recentFind table code = table.find? fun e => decide (e.code = code)) ∧
  (∀ L : Lane, (L.lock = .noLock → scanAllowed L = true) ∧ (L.lock = .inTransit → scanAllowed L = false) ∧
    ∀ i, L.lock = .index i → scanAllowed L = L.cfg.scanMask.getLsbD i) ∧
  (∀ (table : Vector SymEntry 8) (code : List Byte),
    let marks := fun i : Fin 8 => table[i].present = true ∧ code.head? = some table[i].mark
    (symbologyIndex table code = none ↔ ∀ i, ¬marks i) ∧
      ∀ i, symbologyIndex table code = some i ↔ marks i ∧ ∀ j, j < i → ¬marks j)) ∧
  (∀ (s : State) (L : Lane) (p : PortId) (r : SlotRecord), scanAllowed L = true → r.damaged = false →
    (symbologyIndex s.symbology r.code = none → s.strict = false → screen s L p r = judgeDuplicate s L p r 15) ∧
    (∀ i : Fin 8, symbologyIndex s.symbology r.code = some i →
      let e := s.symbology[i]
      let data := r.code.drop 1
      let digits := ∀ b ∈ data, 0x30 ≤ b.toNat ∧ b.toNat ≤ 0x39
      e.minLen ≤ data.length → data.length ≤ e.maxLen →
      (e.rule = .none ∨ digits ∧ 2 ≤ data.length ∧
        (e.rule = .mod10w31 ∧ checkPasses 3 1 data = true ∨ e.rule = .mod10w13 ∧ checkPasses 1 3 data = true)) →
      screen s L p r = judgeDuplicate s L p r i.val) ∧
    (∀ index, recentFind L.recent r.code = none → judgeDuplicate s L p r index = .accept index)) ∧
  (∀ (s : State) (L : Lane) (p : PortId) (r : SlotRecord) (index : Nat) (e : RecentEntry),
    recentFind L.recent r.code = some e →
    let window := if e.port = p then s.sameWindow else s.crossWindow
    (e.time.toNat ≤ r.time.toNat → r.time.toNat - e.time.toNat < window →
      judgeDuplicate s L p r index = .suppress (decide (e.port ≠ p))) ∧
      (e.time.toNat ≤ r.time.toNat → window ≤ r.time.toNat - e.time.toNat → judgeDuplicate s L p r index = .accept index) ∧
      (r.time.toNat < e.time.toNat → judgeDuplicate s L p r index = .accept index) ∧
      recentSuppress r L.recent =
        { code := e.code, port := e.port, time := r.time } :: L.recent.filter fun x => decide (x.code ≠ r.code)) ∧
  (∀ (l : LaneId) (p : PortId) (r : SlotRecord) (late : Bool) (s : State),
    (∀ index, screen s (s.lane l) p r = .accept index →
      (headroom s l < recordSlots (.scan p index r.code) → attemptRecord l p r late s = (s, false)) ∧
      (recordSlots (.scan p index r.code) ≤ headroom s l →
        attemptRecord l p r late s =
          ((admitRecord l { body := .scan p index r.code, flags := { delayed := late }, stamp := r.time } s).modLane l fun L =>
            ({ L with counters := L.counters.set 4 (L.counters[4] + 1), recent := recentAccept p r L.recent }).modPort p fun P =>
              { toned P.cfg.goodTone P with slot := none }, true))) ∧
    (∀ reason index, screen s (s.lane l) p r = .reject reason index →
      (headroom s l < 1 → attemptRecord l p r late s = (s, false)) ∧
      (1 ≤ headroom s l →
        attemptRecord l p r late s =
          ((admitRecord l { body := .scanReject p index reason r.code.length
                            flags := { delayed := late, damaged := r.damaged }, stamp := r.time } s).modLane l fun L =>
            ({ L with counters := L.counters.set 7 (L.counters[7] + 1) }).modPort p fun P =>
              { toned P.cfg.badTone P with slot := none }, true))) ∧
    (∀ cross, screen s (s.lane l) p r = .suppress cross →
      attemptRecord l p r late s =
        (s.modLane l fun L =>
          ({ L with recent := recentSuppress r L.recent
                    counters := if cross then L.counters.set 6 (L.counters[6] + 1) else L.counters.set 5 (L.counters[5] + 1) }).modPort
            p fun P => { P with slot := none }, true)) ∧
    (∀ table : List RecentEntry, recentAccept p r table =
      ({ code := r.code, port := p, time := r.time } :: table.filter fun e => decide (e.code ≠ r.code)).take 8))

/-- For data of two or more bytes, the check passes exactly when the last digit is (10 - S mod 10) mod 10, where S is
the sum over the other digits, numbered 1, 2, ... from the right, of the odd weight for an odd number and the even
weight for an even number times the digit. -/
def Obligations.CheckDigitSum : Prop :=
  ∀ (odd even : Nat) (digits : List Byte) (check : Byte),
    checkPasses odd even (digits ++ [check]) =
      decide (check.toNat - 0x30 =
        (10 - ((List.range digits.length).map fun j =>
          (if (digits.length - j) % 2 = 1 then odd else even) * ((digits.getD j 0).toNat - 0x30)).sum % 10) % 10)

/-- FILTER_CONFIG of another length than 5 is BAD_LENGTH; one of its length takes the strict flag and both windows,
clamped to 5000, answered CLAMPED if either changed; a strict flag above 1 is BAD_VALUE. A SYMBOLOGY_WRITE of 1 to 8
entries stores each at its index, the others kept: a present entry with a defined rule is stored with its lengths
clamped to 1-47 and the minimum lowered to the maximum; one written as empty is stored empty with minimum 1, maximum
47 and rule NONE (its mark byte 0 by log entry 22), whatever its other fields; the answer is CLAMPED if a length of a
present entry changed, and OK otherwise (log entry 32). It is refused BAD_LENGTH for a count of 0 or above 8 or a body
of another length than the count gives; else BAD_VALUE for indices past 7, an undefined presence mark, or a present
entry with an undefined rule. FORGET empties the lane's recent-code table, and in a RUNNING lane attempts the head,
late, and once it finishes the other slot's record; with both slots empty or in READY it does nothing more. Nothing
else changes. Which of two waiting records is the head compares completion times as unsigned numbers (log entry 26).
-/
def Obligations.FilterRequests : Prop :=
  ∀ s : State, Serves s →
    (∀ body : List Byte, body.length ≠ 5 → RefusedAs (.filterConfig body) 0x03 s) ∧
    (∀ body : List Byte, body.length = 5 →
      (2 ≤ u8 body 0 → RefusedAs (.filterConfig body) 0x04 s) ∧
      (u8 body 0 ≤ 1 →
        exec (.filterConfig body) s =
          .next (replied 0x30 body [if u16 body 1 ≤ 5000 ∧ u16 body 3 ≤ 5000 then 0x00 else 0x01]
            { received s with strict := decide (u8 body 0 = 1), sameWindow := min (u16 body 1) 5000
                              crossWindow := min (u16 body 3) 5000 }))) ∧
    (∀ (i : Fin 8) (mark lo hi rule : Byte) (r : CheckRule), ruleOf rule.toNat = some r →
      let top := max 1 (min hi.toNat 47)
      let low := min (max 1 (min lo.toNat 47)) top
      let body : List Byte := [byteOf i.val, 1, 1, mark, lo, hi, rule]
      exec (.symbologyWrite body) s =
        .next (replied 0x31 body [if low = lo.toNat ∧ top = hi.toNat then 0x00 else 0x01]
          { received s with
            symbology := s.symbology.set i ({ present := true, mark := mark, minLen := low, maxLen := top, rule := r }) })) ∧
    (∀ (i : Fin 8) (mark lo hi rule : Byte),
      let body : List Byte := [byteOf i.val, 1, 0, mark, lo, hi, rule]
      exec (.symbologyWrite body) s =
        .next (replied 0x31 body [0x00]
          { received s with
            symbology := s.symbology.set i
              ({ present := false, mark := 0, minLen := 1, maxLen := 47, rule := .none }) })) ∧
    (∀ body : List Byte,
      (u8 body 1 = 0 ∨ 8 < u8 body 1 ∨ body.length ≠ 2 + 5 * u8 body 1 → RefusedAs (.symbologyWrite body) 0x03 s) ∧
      (1 ≤ u8 body 1 → u8 body 1 ≤ 8 → body.length = 2 + 5 * u8 body 1 →
        (8 < u8 body 0 + u8 body 1 ∨
          (∃ j, j < u8 body 1 ∧ (1 < u8 body (2 + 5 * j) ∨ u8 body (2 + 5 * j) = 1 ∧ 2 < u8 body (6 + 5 * j))) →
        RefusedAs (.symbologyWrite body) 0x04 s))) ∧
    (∀ body : List Byte, 1 ≤ u8 body 1 → u8 body 1 ≤ 8 → body.length = 2 + 5 * u8 body 1 → u8 body 0 + u8 body 1 ≤ 8 →
      (∀ j, j < u8 body 1 → u8 body (2 + 5 * j) = 0 ∨ u8 body (2 + 5 * j) = 1 ∧ u8 body (6 + 5 * j) ≤ 2) →
      let kept := ∀ j, j < u8 body 1 → u8 body (2 + 5 * j) = 1 → symLengths body j = (u8 body (4 + 5 * j), u8 body (5 + 5 * j))
      ∃ (table : Vector SymEntry 8) (result : Byte), (kept → result = 0x00) ∧ (¬kept → result = 0x01) ∧
        exec (.symbologyWrite body) s = .next (replied 0x31 body [result] { received s with symbology := table }) ∧
        ∀ i : Fin 8,
          table[i] =
            if u8 body 0 ≤ i.val ∧ i.val < u8 body 0 + u8 body 1 then symStored body (i.val - u8 body 0) else s.symbology[i]) ∧
    (∀ l : LaneId,
      let emptied := (received s).modLane l fun L => { L with recent := [] }
      let answered := fun (t : State) => exec (.forget [laneByte l]) s = .next (replied 0x32 [laneByte l] [0x00] t)
      ((s.lane l).run = .ready → answered emptied) ∧
      ((s.lane l).portA.slot = none → (s.lane l).portB.slot = none → answered emptied) ∧
      (∀ p r, (s.lane l).run = .running → (s.port l p).slot = some r →
        ((s.port l (otherPort p)).slot = none → answered (attemptRecord l p r true emptied).1) ∧
        ∀ w, (s.port l (otherPort p)).slot = some w → Before p r w → answered (attemptBoth l p r w true emptied)))

/-- A growth report to a lane with no waiting record takes the report and does nothing more. In a RUNNING lane, with a
record waiting at port p alone that the screening steps accept with some index, and whose need fits the headroom, the
record is admitted as a SCAN with its completion time and the delayed flag set, the slot empties, scans_accepted
rises, and the code enters the recent-code table. With both slots occupied the head is the record of earlier
completion time, port A's on equal times, and it alone is attempted; once it finishes, the other record is attempted
in the same event, with its delayed flag set if admitted. A completed record that is not reply-marked enters its empty
slot with its bytes, damaged mark and completion time: behind an older record it starts no attempt; as the head it is
attempted at once, not delayed; and one that does not fit the headroom stays in its slot with nothing else done. That
a lane holds one mark for its growth reports, which an attempt takes and clears, so that several reports before it are
one, is the model's choice (log entry 21); times are compared as unsigned numbers (log entry 26). -/
def Obligations.GrowthAttemptsWaitingRecord : Prop :=
  (∀ (l : LaneId) (s : State), (s.lane l).growth = true →
    ((s.lane l).portA.slot = none → (s.lane l).portB.slot = none →
      exec (.growthReport l) s = .next (settle (s.modLane l fun L => { L with growth := false }))) ∧
    (∀ (p : PortId) (r : SlotRecord) (index : Nat), (s.port l p).slot = some r →
      (∀ q, q ≠ p → (s.port l q).slot = none) → screen s (s.lane l) p r = .accept index →
      recordSlots (.scan p index r.code) ≤ headroom s l → (s.lane l).run = .running →
      ∃ t, exec (.growthReport l) s = .next t ∧
        (t.lane l).queue = (s.lane l).queue ++
          [{ body := .scan p index r.code, flags := { delayed := true }, lostBefore := (s.lane l).lost, stamp := r.time }] ∧
        (t.lane l).lost = 0 ∧ (t.port l p).slot = none ∧
        (t.lane l).counters = (s.lane l).counters.set 4 ((s.lane l).counters[4] + 1) ∧
        (t.lane l).recent.head? = some { code := r.code, port := p, time := r.time })) ∧
  ((∀ (l : LaneId) (late : Bool) (s : State),
    ((s.lane l).run = .ready ∨ (s.lane l).portA.slot = none ∧ (s.lane l).portB.slot = none → attemptChain l late s = s) ∧
    ∀ p r, (s.lane l).run = .running → (s.port l p).slot = some r →
      ((s.port l (otherPort p)).slot = none → attemptChain l late s = (attemptRecord l p r late s).1) ∧
      ∀ w, (s.port l (otherPort p)).slot = some w → Before p r w → attemptChain l late s = attemptBoth l p r w late s) ∧
  (∀ L : Lane,
    (L.portA.slot = none → L.portB.slot = none → headPort L = none) ∧
    (∀ p r, (L.port p).slot = some r →
      ((L.port (otherPort p)).slot = none → headPort L = some p) ∧
      ∀ w, (L.port (otherPort p)).slot = some w → (headPort L = some p ↔ Before p r w))) ∧
  (∀ (l : LaneId) (p : PortId) (r : SlotRecord) (s : State), (s.lane l).growth = true → (s.lane l).run = .running →
    (s.port l p).slot = some r →
    let taken := s.modLane l fun L => { L with growth := false }
    ((s.port l (otherPort p)).slot = none →
      exec (.growthReport l) s = .next (settle (attemptRecord l p r true taken).1)) ∧
    (∀ w, (s.port l (otherPort p)).slot = some w → Before p r w →
      exec (.growthReport l) s = .next (settle (attemptBoth l p r w true taken)))) ∧
  (∀ (l : LaneId) (p : PortId) (s : State), (s.lane l).run = .running → (s.port l p).cfg.enabled = true →
    (s.port l p).charDrop = false → DataBits (s.port l p).cfg (s.port l p).cfg.terminator → (s.port l p).rx = .assembly →
    (s.port l p).buf ≠ [] → ¬ReplyMarked (s.port l p) → (s.port l p).slot = none →
    let r : SlotRecord := { code := (s.port l p).buf, damaged := (s.port l p).damaged, time := s.clock }
    let held := s.modPort l p fun P => { completedPort P with slot := some r }
    let ends := exec (.scannerCharacterReceived l p { value := (s.port l p).cfg.terminator, quality := .good }) s
    ((s.port l (otherPort p)).slot = none → ends = .next (settle (attemptRecord l p r false held).1)) ∧
    (∀ w, (s.port l (otherPort p)).slot = some w →
      (¬Before p r w → ends = .next (settle held)) ∧ (Before p r w → ends = .next (settle (attemptBoth l p r w false held)))) ∧
    ((∀ w, (s.port l (otherPort p)).slot = some w → Before p r w) →
      (∀ index, screen held (held.lane l) p r = .accept index → headroom held l < recordSlots (.scan p index r.code) →
        ends = .next (settle held)) ∧
      (∀ reason index, screen held (held.lane l) p r = .reject reason index → headroom held l < 1 →
        ends = .next (settle held)))))

/-- An offered record whose slots exceed the lane's headroom is lost: the pending-loss count rises by 1, saturating at
255, records_lost rises by 1, wrapping, and LOSS is raised; the record is discarded; every occupancy, F, every
headroom and every store-high state stay as they were, and no other lane is touched. A loss notice counts the same. -/
def Obligations.OfferLost : Prop :=
  (∀ (l : LaneId) (s : State), lose l s = s.modLane l fun L =>
    { L with lost := min (L.lost + 1) 255, counters := L.counters.set 8 (L.counters[8] + 1)
             sticky := L.sticky ||| 0x04, reported := L.reported &&& ~~~0x04 }) ∧
  ∀ (l : LaneId) (b : RecBody) (f : RecFlags) (s : State), headroom s l < recordSlots b →
    offer l b f s =
        (s.modLane l fun L =>
          { L with lost := min (L.lost + 1) 255, counters := L.counters.set 8 (L.counters[8] + 1)
                   sticky := L.sticky ||| flagLoss, reported := L.reported &&& ~~~flagLoss }) ∧
      freeShared (offer l b f s) = freeShared s ∧
      ∀ k : LaneId, headroom (offer l b f s) k = headroom s k ∧ occupancy ((offer l b f s).lane k) = occupancy (s.lane k) ∧
        ((offer l b f s).lane k).storeHigh = (s.lane k).storeHigh ∧ (k ≠ l → (offer l b f s).lane k = s.lane k)

/-- An offered record whose slots fit the headroom joins the tail of its lane queue with lost_before the pending-loss
count, which becomes 0, and the Device Clock as its stamp. Every lane is then judged: store-high on below its hold
margin, off at the margin plus the hysteresis, kept between; HIGH is raised, and leaves the reported set, exactly at
an entry. Every recompute judges the lanes so, marks growth in each whose headroom is above what it was before the
event that called for it, and changes nothing else. A record holds its bytes by Table 7-1, divided by 16 and rounded
up, in slots. The occupancy n is the sum of the slots in a queue; the free shared part F is 512 less the reserves R
and less the lanes' shared uses max(0, n - R); the total free count is 512 less the occupancies, which is F and the
unused reserves; and the headroom is the smaller of the cap less n, and the unused reserve with F. R132 reports
growth: that the report is a mark of the lane, and several reports one mark, is the model's choice (log entry 21).
Outside the law of R121 the differences are cut off at 0 (log entry 18). -/
def Obligations.AdmissionJoinsTailAndRecomputes : Prop :=
  (∀ b : RecBody, recordLength b = tableLength b ∧ recordSlots b = (tableLength b + 15) / 16) ∧
  (∀ L : Lane, occupancy L = (L.queue.map fun r => recordSlots r.body).sum ∧ sharedUse L = occupancy L - L.cfg.reserve) ∧
  (∀ s : State,
    let n := fun l : LaneId => occupancy (s.lane l)
    let R := fun l : LaneId => (s.lane l).cfg.reserve
    freeShared s = 512 - (R 0 + R 1 + R 2 + R 3) - ((n 0 - R 0) + (n 1 - R 1) + (n 2 - R 2) + (n 3 - R 3)) ∧
      totalFree s = 512 - (n 0 + n 1 + n 2 + n 3) ∧
      (∀ l : LaneId, headroom s l = min ((s.lane l).cfg.cap - n l) ((R l - n l) + freeShared s)) ∧
      (StoreLaw s → totalFree s = freeShared s + ((R 0 - n 0) + (R 1 - n 1) + (R 2 - n 2) + (R 3 - n 3)))) ∧
  (∀ (l : LaneId) (r : Rec) (s : State), admitRecord l r s = recompute s (s.modLane l fun L =>
    { L with queue := L.queue ++ [{ r with lostBefore := L.lost }], lost := 0 })) ∧
  (∀ old s : State, recompute old s = s.mapLanes fun k L =>
    let h := headroom s k
    let high := if h < L.cfg.margin then true else if L.cfg.margin + L.cfg.hysteresis ≤ h then false else L.storeHigh
    let enters := high && !L.storeHigh
    { L with
      storeHigh := high, growth := L.growth || decide (headroom old k < h)
      sticky := if enters then L.sticky ||| flagHigh else L.sticky
      reported := if enters then L.reported &&& ~~~flagHigh else L.reported }) ∧
  ∀ (l : LaneId) (b : RecBody) (f : RecFlags) (s : State), recordSlots b ≤ headroom s l →
    let t := offer l b f s
    (t.lane l).queue = (s.lane l).queue ++ [stored s l b f] ∧ (t.lane l).lost = 0 ∧
      ∀ k : LaneId,
        (t.lane k).storeHigh =
            (if headroom t k < (s.lane k).cfg.margin then true
              else if (s.lane k).cfg.margin + (s.lane k).cfg.hysteresis ≤ headroom t k then false else (s.lane k).storeHigh) ∧
          (t.lane k).sticky =
            (if (t.lane k).storeHigh = true ∧ (s.lane k).storeHigh = false then (s.lane k).sticky ||| flagHigh
              else (s.lane k).sticky) ∧
          (t.lane k).reported =
            (if (t.lane k).storeHigh = true ∧ (s.lane k).storeHigh = false then (s.lane k).reported &&& ~~~flagHigh
              else (s.lane k).reported) ∧
          (t.lane k).growth = ((s.lane k).growth || decide (headroom s k < headroom t k)) ∧
          (k ≠ l → (t.lane k).queue = (s.lane k).queue ∧ (t.lane k).lost = (s.lane k).lost)

/-- A FETCH of a lane whose records are at most 59 bytes removes n records from the head of its queue and replies with
the result (CLAMPED for a max of 0), the lane, n, the records left and the n records in order. n is at most max (at
least 1), the reply body is at most 250 bytes, n is at least 1 when the queue is not empty, and n stops short of max
only at the end of the queue or where the next record would pass 250 bytes. When a record was taken the store is
recomputed; nothing else changes. Each record is sent at its own length: its kind byte, the flags byte (delayed,
truncated, damaged, layer in bits 0 to 3), lost_before, its time stamp, and the body of its kind, with the values of
Tables 11-4 and 11-5. Every number is sent least significant byte first. -/
def Obligations.FetchTakesFromTheHead : Prop :=
  (∀ r : Rec, (recordBytes r).length = recordLength r.body ∧ ∃ flags : Byte,
    recordBytes r = [(sentRecord r.body).1, flags, byteOf r.lostBefore] ++ le48 r.stamp ++ (sentRecord r.body).2 ∧
      flags.getLsbD 0 = r.flags.delayed ∧ flags.getLsbD 1 = r.flags.truncated ∧ flags.getLsbD 2 = r.flags.damaged ∧
      flags.getLsbD 3 = r.flags.layer ∧ flags.toNat < 16) ∧
  (∀ n : Nat, byteOf n = BitVec.ofNat 8 n ∧ le16 n = [BitVec.ofNat 8 n, BitVec.ofNat 8 (n / 256)] ∧
    le32 n = [BitVec.ofNat 8 n, BitVec.ofNat 8 (n / 256), BitVec.ofNat 8 (n / 65536), BitVec.ofNat 8 (n / 16777216)]) ∧
  (∀ c : Clock, le48 c = (List.range 6).map fun i => BitVec.ofNat 8 (c.toNat / 256 ^ i)) ∧
  ∀ (l : LaneId) (most : Byte) (s : State), Serves s → (∀ r ∈ (s.lane l).queue, recordLength r.body ≤ 59) →
    let q := (s.lane l).queue
    ∃ n : Nat, n ≤ q.length ∧ n ≤ max most.toNat 1 ∧ (q ≠ [] → 1 ≤ n) ∧
      5 + ((q.take n).map fun r => recordLength r.body).sum ≤ 250 ∧
      (n < q.length → n < max most.toNat 1 → 250 < 5 + ((q.take (n + 1)).map fun r => recordLength r.body).sum) ∧
      exec (.fetch [laneByte l, most]) s =
        .next (replied 0x38 [laneByte l, most]
          ((if most = 0 then 0x01 else 0x00) :: laneByte l :: byteOf n :: le16 (q.length - n) ++ (q.take n).flatMap recordBytes)
          (if n = 0 then received s
            else recompute (received s) ((received s).modLane l fun L => { L with queue := L.queue.drop n })))

/-- PURGE is answered OK with the number of records removed and leaves the lane queue empty; if there was any record
the store is recomputed. The pending-loss count, records_lost, LOSS and the hand-off slots are kept, and nothing else
changes. -/
def Obligations.PurgeEmptiesTheQueue : Prop :=
  ∀ (l : LaneId) (s : State), Serves s →
    exec (.purge [laneByte l]) s =
      .next (replied 0x39 [laneByte l] (0x00 :: le16 (s.lane l).queue.length)
        (if (s.lane l).queue = [] then received s
          else recompute (received s) ((received s).modLane l fun L => { L with queue := [] })))

/-- KICK of a lane: STATE if it is not RUNNING, else INHIBITED while INH_N is asserted, else LOCKED where the lock
position forbids it, else BUSY in a kick, ALREADY_OPEN in OPEN or OVERDUE and BUSY in SETTLING, changing nothing; in
SHUT it is answered OK and the kick begins: tries used 1, output on, KICK_PULSE, both timers from now with the active
times. Nothing else changes. The lock position allows kicking at NONE and at an index in the kick lock mask, and
forbids it at another index and in transit. -/
def Obligations.KickJudgedByTable : Prop :=
  (∀ L : Lane, (L.lock = .noLock → kickAllowed L = true) ∧ (L.lock = .inTransit → kickAllowed L = false) ∧
    ∀ i, L.lock = .index i → kickAllowed L = L.cfg.kickMask.getLsbD i) ∧
  ∀ (l : LaneId) (s : State), Serves s →
    let L := s.lane l
    (L.run = .ready → RefusedAs (.kick [laneByte l]) 0x06 s) ∧
    (L.run = .running → s.inhibit = true → RefusedAs (.kick [laneByte l]) 0x09 s) ∧
    (L.run = .running → s.inhibit = false → kickAllowed L = false → RefusedAs (.kick [laneByte l]) 0x08 s) ∧
    (L.run = .running → s.inhibit = false → kickAllowed L = true →
      (L.drawer.st = .kickPulse ∨ L.drawer.st = .kickWait ∨ L.drawer.st = .settling →
        RefusedAs (.kick [laneByte l]) 0x07 s) ∧
      (L.drawer.st = .opened ∨ L.drawer.st = .overdue → RefusedAs (.kick [laneByte l]) 0x0A s) ∧
      (L.drawer.st = .shut →
        exec (.kick [laneByte l]) s =
          .next (replied 0x41 [laneByte l] [0x00] ((received s).modLane l fun L =>
            { L with drawer := { L.drawer with
                st := .kickPulse, tries := 1, kick := true
                pulse := some (s.elapsed + L.drawer.active.width)
                retry := some (s.elapsed + L.drawer.active.retryPeriod) } }))))

/-- When the pulse timer's time is reached in KICK_PULSE the output goes off and the drawer enters KICK_WAIT, the
retry timer running on. When the retry timer's time is reached in KICK_WAIT: with tries left, a further pulse begins
with one more try used and both timers from now; with none left, the drawer enters SHUT with the staged set active,
DRAWER_FAIL is offered, KICK_NO_OPEN raised, kick_failures counted and DRAWER raised. Nothing else changes. -/
def Obligations.KickTimersExpire : Prop :=
  ∀ (l : LaneId) (s : State),
    let D := (s.lane l).drawer
    (∀ due, D.st = .kickPulse → D.pulse = some due → due ≤ s.elapsed →
      exec (.pulseTimerExpiry l) s =
        .next (settle (s.modLane l fun L =>
          { L with drawer := { L.drawer with st := .kickWait, kick := false, pulse := none } }))) ∧
    (∀ due, D.st = .kickWait → D.retry = some due → due ≤ s.elapsed →
      (D.tries < D.active.maxTries →
        exec (.retryTimerExpiry l) s =
          .next (settle (s.modLane l fun L =>
            { L with drawer := { L.drawer with
                st := .kickPulse, tries := D.tries + 1, kick := true
                pulse := some (s.elapsed + D.active.width), retry := some (s.elapsed + D.active.retryPeriod) } }))) ∧
      (D.active.maxTries ≤ D.tries →
        exec (.retryTimerExpiry l) s =
          .next (settle (raise l flagDrawer (count l .kickFailures (offerFault l .kickNoOpen .drawer D.active.maxTries
            (offer l (.drawerFail D.active.maxTries) {}
              (s.modLane l fun L => { L with drawer := shutDrawer L.drawer }))))))))

/-- When the raw reading of a RUNNING lane's sensor has held for the debounce time: shut in SETTLING enters SHUT with
no record; open in SETTLING offers DRAWER_OPEN AT_START and enters OPEN; open in a kick offers DRAWER_OPEN COMMANDED
with the tries used, counts drawer_opens and enters OPEN with the output off; open in SHUT offers DRAWER_OPEN
UNCOMMANDED, counts drawer_opens and uncommanded_opens, raises DRAWER and enters OPEN; shut in OPEN or OVERDUE offers
DRAWER_CLOSED with the elapsed time since the open mark, saturating, and enters SHUT. The open timer starts from 0,
held at once where the lock position pauses the alarm. -/
def Obligations.DebouncedChangesMoveTheDrawer : Prop :=
  ∀ (l : LaneId) (since : Nat) (s : State), (s.lane l).run = .running → (s.lane l).drawer.measure = some since →
    since + (s.lane l).drawer.debounce ≤ s.elapsed →
    let D := (s.lane l).drawer
    let s1 := s.modLane l fun L => { L with drawer := { L.drawer with measure := none } }
    let opens := fun (t : State) => t.modLane l fun L => { L with drawer := openedDrawer s.elapsed (alarmPaused L) L.drawer }
    let shuts := fun (t : State) => t.modLane l fun L => { L with drawer := shutDrawer L.drawer }
    (D.dsense ≠ D.openHigh →
      (D.st = .settling → exec (.debouncedChange l) s = .next (settle (shuts s1))) ∧
      (D.st = .opened ∨ D.st = .overdue →
        exec (.debouncedChange l) s =
          .next (settle (shuts (offer l (.drawerClosed (min (s.elapsed - D.openMark) 4294967295)) {} s1))))) ∧
    (D.dsense = D.openHigh →
      (D.st = .settling → exec (.debouncedChange l) s = .next (settle (opens (offer l (.drawerOpen .atStart 0) {} s1)))) ∧
      (D.st = .kickPulse ∨ D.st = .kickWait →
        exec (.debouncedChange l) s =
          .next (settle (opens (count l .drawerOpens (offer l (.drawerOpen .commanded D.tries) {} s1))))) ∧
      (D.st = .shut →
        exec (.debouncedChange l) s =
          .next (settle (opens (raise l flagDrawer
            (count l .uncommandedOpens (count l .drawerOpens (offer l (.drawerOpen .uncommanded 0) {} s1))))))))

/-- A change of the DSENSE level of a RUNNING lane begins the stability measurement from now in SETTLING, and outside
it when the new raw reading differs from the debounced one that the drawer state gives; it ends the measurement when
they agree. A level that does not change does nothing, and in READY only the level is noted. When the open timer of an
OPEN drawer has counted the active alarm time, not 0, DRAWER_OVERDUE is offered with that time, DRAWER is raised, and
the drawer enters OVERDUE with the timer stopped. Nothing else changes. At a pass end of a lane whose drawer is OPEN,
a new lock position that pauses the alarm holds the running count, one that does not lets a held count go on, and
otherwise the drawer keeps its whole state. The alarm is paused at an index in the alarm pause mask, and at no other
lock position. -/
def Obligations.SensorAndAlarmEvents : Prop :=
  (∀ L : Lane, (L.lock = .noLock → alarmPaused L = false) ∧ (L.lock = .inTransit → alarmPaused L = false) ∧
    ∀ i, L.lock = .index i → alarmPaused L = L.cfg.pauseMask.getLsbD i) ∧
  (∀ (l : LaneId) (high : Bool) (s : State),
    let D := (s.lane l).drawer
    let watches := (s.lane l).run = .running
    let differs := (decide (high = D.openHigh)) ≠ (decide (D.st = .opened) || decide (D.st = .overdue))
    let sensed := fun (m : Option Nat) =>
      s.modLane l fun L => { L with drawer := { L.drawer with dsense := high, measure := m } }
    (high = D.dsense → exec (.rawSensorChange l high) s = .next (settle s)) ∧
    (high ≠ D.dsense → ¬watches → exec (.rawSensorChange l high) s = .next (settle (sensed D.measure))) ∧
    (high ≠ D.dsense → watches → D.st = .settling ∨ differs →
      exec (.rawSensorChange l high) s = .next (settle (sensed (some s.elapsed)))) ∧
    (high ≠ D.dsense → watches → D.st ≠ .settling → ¬differs →
      exec (.rawSensorChange l high) s = .next (settle (sensed none)))) ∧
  (∀ (l : LaneId) (counted since : Nat) (s : State), (s.lane l).drawer.st = .opened →
    (s.lane l).drawer.openTimer = .running counted since → (s.lane l).drawer.active.alarm ≠ 0 →
    (s.lane l).drawer.active.alarm * 1000 ≤ counted + (s.elapsed - since) →
    exec (.openTimerExpiry l) s =
      .next (settle ((raise l flagDrawer (offer l (.drawerOverdue (s.lane l).drawer.active.alarm) {} s)).modLane l fun L =>
        { L with drawer := { L.drawer with st := .overdue, openTimer := .stopped } }))) ∧
  (∀ (l : LaneId) (closed : BitVec 128) (s : State), passDue s l = true → (s.lane l).drawer.st = .opened →
    ∃ t, exec (.samplePassEnd l closed) s = .next t ∧
      ((t.lane l).lock = (s.lane l).lock → (t.lane l).drawer = (s.lane l).drawer) ∧
      ((t.lane l).lock ≠ (s.lane l).lock →
        (∀ counted since, (s.lane l).drawer.openTimer = .running counted since →
          (t.lane l).drawer =
            if alarmPaused (t.lane l) = true then
              { (s.lane l).drawer with openTimer := .held (counted + (s.elapsed - since)) }
            else (s.lane l).drawer) ∧
        (∀ counted, (s.lane l).drawer.openTimer = .held counted →
          (t.lane l).drawer =
            if alarmPaused (t.lane l) = true then (s.lane l).drawer
            else { (s.lane l).drawer with openTimer := .running counted s.elapsed })))

/-- INH_N_ASSERTED while INH_N is released, in whatever order the assertion reaches the Drawer Controllers (log entry
14): INHIBIT is set, and every RUNNING lane that was kicking has its drawer in SHUT with the output off, both timers
stopped, no tries used and the staged set active, and DRAWER raised. A DRAWER_ABORT with cause INHIBIT and the tries
used is offered: it joins the lane queue with the pending losses when the headroom is above the number of other
kicking lanes, or is 1 or more and the lane comes first in the order; with no headroom it is lost, the pending-loss
count and records_lost rising and LOSS raised; in between it is one of the two. Every other lane keeps its drawer,
queue and losses. While INH_N is asserted already, nothing changes. INH_N_RELEASED clears INHIBIT and changes nothing
else. -/
def Obligations.InhibitAbortsEveryKick : Prop :=
  (∀ (order : List LaneId) (s : State), s.inhibit = false →
    let kicks := fun l : LaneId =>
      (s.lane l).run = .running ∧ ((s.lane l).drawer.st = .kickPulse ∨ (s.lane l).drawer.st = .kickWait)
    ∃ t, exec (.inhNAsserted order) s = .next t ∧ t.inhibit = true ∧
      ∀ l : LaneId,
        let others := ((List.finRange 4).filter fun k : LaneId => decide (k ≠ l) && decide (kicks k)).length
        let joined := (t.lane l).lost = 0 ∧ (t.lane l).counters = (s.lane l).counters ∧
          (t.lane l).queue = (s.lane l).queue ++ [stored s l (.drawerAbort .inhibit (s.lane l).drawer.tries) {}]
        let lost := (t.lane l).queue = (s.lane l).queue ∧ (t.lane l).lost = min ((s.lane l).lost + 1) 255 ∧
          (t.lane l).counters = (s.lane l).counters.set 8 ((s.lane l).counters[8] + 1) ∧ (t.lane l).sticky &&& flagLoss ≠ 0
        (kicks l → (t.lane l).drawer = shutDrawer (s.lane l).drawer ∧ (t.lane l).sticky &&& flagDrawer ≠ 0 ∧
          (others < headroom s l → joined) ∧ (1 ≤ headroom s l → order.head? = some l → joined) ∧
          (headroom s l = 0 → lost) ∧ (joined ∨ lost)) ∧
        (¬kicks l → (t.lane l).drawer = (s.lane l).drawer ∧ (t.lane l).queue = (s.lane l).queue ∧
          (t.lane l).lost = (s.lane l).lost)) ∧
  (∀ (order : List LaneId) (s : State), s.inhibit = true → exec (.inhNAsserted order) s = .next (settle s)) ∧
  (∀ s : State, exec .inhNReleased s = .next (settle { s with inhibit := false }))

/-- A DRAWER_CONFIG with defined values is taken with its times clamped to Table 8-1 and the retry period raised above
the kick width, and the debounce time clamped: the staged set is always replaced, and the active set too in READY,
SETTLING and SHUT; polarity, debounce and local kick act at once. It is answered CLAMPED if a field changed, and OK
otherwise. A new polarity of a RUNNING lane begins the stability measurement from now in SETTLING and where the
flipped reading differs from the debounced one, and ends it otherwise; a measurement in progress that has reached the
new debounce time has its debounced change taken at once, as DEBOUNCED_CHANGE takes it; else nothing else changes (log
entry 25). In every lane and drawer state the staged set and the sensor settings are taken, and the active set in
READY, SETTLING and SHUT; in a kick, OPEN or OVERDUE the active set is kept unless the write itself brings the drawer
to SHUT. An undefined polarity or local kick is BAD_VALUE. A width, period or tries out of range takes the nearer
limit, an alarm of 1 to 4 becomes 5 and one above 600 becomes 600, and then a period at most the width becomes the
width plus 20, clamped again. Every clamped set is within its ranges, and a period of 100 with a width of 150 becomes
170. -/
def Obligations.DrawerConfigStagedOrActive : Prop :=
  (∀ (l : LaneId) (body : List Byte) (s : State), Serves s → body.length = 10 → body.head? = some (laneByte l) →
    let given : Timing := { width := u8 body 1, retryPeriod := u16 body 2, maxTries := u8 body 4, alarm := u16 body 5 }
    let debounce := max 5 (min (u8 body 8) 100)
    let answer : List Byte := [if clampTiming given = given ∧ debounce = u8 body 8 then 0x00 else 0x01]
    let openHigh := decide (u8 body 7 = 0)
    let D := (s.lane l).drawer
    let differs := decide (D.dsense = openHigh) ≠ (decide (D.st = .opened) || decide (D.st = .overdue))
    let taken := fun (m : Option Nat) => (received s).modLane l fun L =>
      { L with drawer := { L.drawer with
          staged := clampTiming given
          active := if L.run = .ready ∨ L.drawer.st = .settling ∨ L.drawer.st = .shut then clampTiming given
            else L.drawer.active
          openHigh := openHigh, debounce := debounce, localKick := decide (u8 body 9 = 1), measure := m } }
    (2 ≤ u8 body 7 ∨ 2 ≤ u8 body 9 → RefusedAs (.drawerConfig body) 0x04 s) ∧
    (u8 body 7 ≤ 1 → u8 body 9 ≤ 1 →
      ((s.lane l).run = .ready → exec (.drawerConfig body) s = .next (replied 0x40 body answer (taken D.measure))) ∧
      ((s.lane l).run = .running → D.openHigh ≠ openHigh →
        exec (.drawerConfig body) s =
          .next (replied 0x40 body answer (taken (if D.st = .settling ∨ differs then some s.elapsed else none)))) ∧
      ((s.lane l).run = .running → D.openHigh = openHigh → (∀ since, D.measure = some since → s.elapsed < since + debounce) →
        exec (.drawerConfig body) s = .next (replied 0x40 body answer (taken D.measure))) ∧
      (∀ since, (s.lane l).run = .running → D.openHigh = openHigh → D.measure = some since → since + debounce ≤ s.elapsed →
        ∃ t, exec (.debouncedChange l) (taken D.measure) = .next (settle t) ∧
          exec (.drawerConfig body) s = .next (replied 0x40 body answer t))) ∧
    (u8 body 7 ≤ 1 → u8 body 9 ≤ 1 →
      ∃ t, exec (.drawerConfig body) s = .next t ∧
        t.area = s.area ++ [{ kind := 0x40, body := body
                              reply := frameBytes 0xC0
                                [if clampTiming given = given ∧ debounce = u8 body 8 then 0x00 else 0x01] }] ∧
        (t.lane l).drawer.staged = clampTiming given ∧ (t.lane l).drawer.openHigh = decide (u8 body 7 = 0) ∧
        (t.lane l).drawer.debounce = debounce ∧ (t.lane l).drawer.localKick = decide (u8 body 9 = 1) ∧
        (t.lane l).drawer.active =
          if (s.lane l).run = .ready ∨ (s.lane l).drawer.st = .settling ∨ (s.lane l).drawer.st = .shut ∨
              (t.lane l).drawer.st = .shut then clampTiming given
          else (s.lane l).drawer.active)) ∧
  (∀ g : Timing,
    let nearer := fun (lo hi v : Nat) => if v < lo then lo else if hi < v then hi else v
    let width := nearer 20 250 g.width
    let period := nearer 100 2000 g.retryPeriod
    clampTiming g =
      { width := width, retryPeriod := if period ≤ width then nearer 100 2000 (width + 20) else period
        maxTries := nearer 1 4 g.maxTries, alarm := if g.alarm = 0 then 0 else nearer 5 600 g.alarm }) ∧
  (∀ g : Timing, TimingInRange (clampTiming g)) ∧ (∀ g : Timing, TimingInRange g → clampTiming g = g) ∧
  (∀ g : Timing, g.width = 150 → g.retryPeriod = 100 → (clampTiming g).retryPeriod = 170)

/-- A lane STATUS is answered with the bytes of Table 11-11 as they stand, and the lane's reported set becomes the
sticky flags shown set, DATA and FAULT apart. A device STATUS is answered with the device flags, the Device Clock, F,
the total free count and the two link counts, and the device reported set becomes LINK or nothing. Each changes
nothing else. A lane number of 4 to 254 is BAD_LANE whatever the length, and a body of another length than 1 is
BAD_LENGTH. The states, the lock position, the Fault Record image and the bits of the HOLD and slot byte and of the
flag bytes have the values of Tables 11-4, 11-5 and 11-12: DATA while the queue holds a record, HIGH, LOSS, DRAWER,
SCANNER and LOCK the sticky flags, FAULT while the Fault Record is locked; LINK, and INHIBIT as INH_N. Raising a
sticky flag sets it and takes it out of the reported set. -/
def Obligations.StatusReportsAndMarks : Prop :=
  (∀ L : Lane, (holdSlotByte L).getLsbD 0 = L.portA.hold ∧ (holdSlotByte L).getLsbD 1 = L.portB.hold ∧
    (holdSlotByte L).getLsbD 2 = L.portA.slot.isSome ∧ (holdSlotByte L).getLsbD 3 = L.portB.slot.isSome ∧
    (holdSlotByte L).toNat < 16) ∧
  (∀ L : Lane, (laneFlags L).getLsbD 0 = !L.queue.isEmpty ∧ (∀ i, 1 ≤ i → i ≤ 5 → (laneFlags L).getLsbD i = L.sticky.getLsbD i) ∧
    (laneFlags L).getLsbD 6 = L.fault.locked ∧ (laneFlags L).toNat < 128) ∧
  (∀ s : State, (deviceFlags s).getLsbD 0 = s.link ∧ (deviceFlags s).getLsbD 1 = s.inhibit ∧ (deviceFlags s).toNat < 4) ∧
  (flagHigh = 0x02 ∧ flagLoss = 0x04 ∧ flagDrawer = 0x08 ∧ flagScanner = 0x10 ∧ flagLock = 0x20) ∧
  (∀ (l : LaneId) (flag : Byte) (s : State), raise l flag s = s.modLane l fun L =>
    { L with sticky := L.sticky ||| flag, reported := L.reported &&& ~~~flag }) ∧
  ScopeJudged .status 1 ∧ ∀ s : State, Serves s →
    (∀ l : LaneId,
      let L := s.lane l
      exec (.status [laneByte l]) s =
        .next (replied 0x48 [laneByte l]
          ([0x00, laneByte l, if L.run = .running then 0x01 else 0x00, drawerByte L.drawer.st,
              lockByte L.lock] ++ le16 (occupancy L) ++ le16 (headroom s l) ++
            [if L.storeHigh then 0x01 else 0x00, holdSlotByte L, expectByte L.portA.expect,
              expectByte L.portB.expect, byteOf L.lost, laneFlags L] ++ faultBytes L.fault)
          ((received s).modLane l fun L => { L with reported := L.sticky &&& 0x3E }))) ∧
    exec (.status [0xFF]) s =
      .next (replied 0x48 [0xFF]
        ([0x00, 0xFF, deviceFlags s] ++ le48 s.clock ++ le16 (freeShared s) ++ le16 (totalFree s) ++ le16 s.badFrames ++
          le16 s.overruns) { received s with linkReported := s.link })

/-- ACK_FLAGS of a lane with a mask of the seven flags clears the sticky flags that are both in the mask and in the
reported set, takes them out of the reported set, and replies with the flags after it; every other flag and reported
flag is kept. For the device it does so for LINK. A lane number of 4 to 254 is BAD_LANE, then a body of another length
than 2 BAD_LENGTH, then a mask bit that names no flag BAD_VALUE. Nothing else changes. -/
def Obligations.AckClearsOnlyReported : Prop :=
  ScopeJudged .ackFlags 2 ∧ ∀ (mask : Byte) (s : State), Serves s →
    (∀ l : LaneId,
      (mask.toNat < 128 →
        let L' := { s.lane l with
          sticky := (s.lane l).sticky &&& ~~~(mask &&& (s.lane l).reported)
          reported := (s.lane l).reported &&& ~~~mask }
        exec (.ackFlags [laneByte l, mask]) s =
          .next (replied 0x49 [laneByte l, mask] [0x00, laneByte l, laneFlags L'] ((received s).setLane l L'))) ∧
      (128 ≤ mask.toNat → RefusedAs (.ackFlags [laneByte l, mask]) 0x04 s)) ∧
    (mask.toNat < 4 →
      let t := if mask.getLsbD 0 = true ∧ s.linkReported = true then
        { received s with link := false, linkReported := false } else received s
      exec (.ackFlags [0xFF, mask]) s = .next (replied 0x49 [0xFF, mask] [0x00, 0xFF, deviceFlags t] t)) ∧
    (4 ≤ mask.toNat → RefusedAs (.ackFlags [0xFF, mask]) 0x04 s)

/-- ATTN_MASK replaces the lane's or the device's enable mask whole and is answered OK, changing no flag and no
reported set; a lane number of 4 to 254 is BAD_LANE, then a body of another length than 2 BAD_LENGTH, then a bit that
names no flag of the scope BAD_VALUE. ATTN then follows the new mask. -/
def Obligations.AttnMaskReplacesEnables : Prop :=
  ScopeJudged .attnMask 2 ∧ ∀ (mask : Byte) (s : State), Serves s →
    (∀ l : LaneId,
      (mask.toNat < 128 →
        exec (.attnMask [laneByte l, mask]) s =
          .next (replied 0x4A [laneByte l, mask] [0x00] ((received s).modLane l fun L => { L with enable := mask }))) ∧
      (128 ≤ mask.toNat → RefusedAs (.attnMask [laneByte l, mask]) 0x04 s)) ∧
    (mask.toNat < 4 →
      exec (.attnMask [0xFF, mask]) s = .next (replied 0x4A [0xFF, mask] [0x00] { received s with deviceEnable := mask })) ∧
    (4 ≤ mask.toNat → RefusedAs (.attnMask [0xFF, mask]) 0x04 s)

/-- CLEAR_FAULT is refused BAD_LANE for any lane number above 3 and BAD_LENGTH for a body of another length, in that
order. In either lane state it is answered OK with the Fault Record as it stood, all its fields in the bytes of Tables
11-4 and 11-12, and the record is unlocked and zeroed, further count included, so that FAULT is clear. Nothing else
changes. -/
def Obligations.ClearFaultReturnsAndUnlocks : Prop :=
  LaneJudged .clearFault 1 ∧
    ∀ (l : LaneId) (s : State), Serves s →
      exec (.clearFault [laneByte l]) s =
          .next (replied 0x4B [laneByte l] (0x00 :: laneByte l :: faultBytes (s.lane l).fault)
            ((received s).modLane l fun L => { L with fault := {} })) ∧
        (laneFlags { s.lane l with fault := {} }).getLsbD 6 = false ∧
        ((s.lane l).fault = {} → faultBytes (s.lane l).fault = List.replicate 12 0)

/-- READ_COUNTERS is refused BAD_LANE for any lane number above 3 and BAD_LENGTH for a body of another length, in that
order. In either lane state it is answered OK: with a full latch, with the marker latched, the latch's time and its
twelve values, and the latch becomes empty; with an empty latch, with the marker live, the Device Clock and the twelve
live values, and nothing changes. The live counters are unchanged. -/
def Obligations.CountersReadLatchedOrLive : Prop :=
  (∀ values : Vector (BitVec 32) 12, counterBytes values = (List.finRange 12).flatMap fun i => le32 values[i].toNat) ∧
  LaneJudged .readCounters 1 ∧
    ∀ (l : LaneId) (s : State), Serves s →
      (∀ image, (s.lane l).counterLatch = some image →
        exec (.readCounters [laneByte l]) s =
          .next (replied 0x4D [laneByte l] (0x00 :: laneByte l :: 0x01 :: le48 image.time ++ counterBytes image.values)
            ((received s).modLane l fun L => { L with counterLatch := none }))) ∧
      ((s.lane l).counterLatch = none →
        exec (.readCounters [laneByte l]) s =
          .next (replied 0x4D [laneByte l] (0x00 :: laneByte l :: 0x00 :: le48 s.clock ++ counterBytes (s.lane l).counters)
            (received s)))

/-- LATCH_COUNTERS with a mask of lanes 0 to 3 fills the empty latch of every named lane with its live counters and
the Device Clock, leaves full latches as they are, and replies with the set of lanes it filled; a body of another
length than 1 is BAD_LENGTH, and a bit above lane 3 is BAD_VALUE. CLEAR_COUNTERS sets the lane's twelve live counters
to 0 and keeps the latch. Nothing else changes. Counting raises the live counter at its index of Table 9-3 by 1,
wrapping. -/
def Obligations.CountersLatchedAndCleared : Prop :=
  (∀ (l : LaneId) (c : Counter) (i : Fin 12) (s : State), (c, i) ∈ counterPlaces →
    count l c s = s.modLane l fun L => { L with counters := L.counters.set i (L.counters[i] + 1) }) ∧
  ∀ s : State, Serves s →
    (∀ body : List Byte, body.length ≠ 1 → RefusedAs (.latchCounters body) 0x03 s) ∧
    (∀ mask : Byte, mask.toNat < 16 →
      let fills := fun (l : LaneId) => mask.getLsbD l.val && (s.lane l).counterLatch.isNone
      exec (.latchCounters [mask]) s =
        .next (replied 0x4C [mask]
          [0x00, byteOf ((fills 0).toNat + 2 * (fills 1).toNat + 4 * (fills 2).toNat + 8 * (fills 3).toNat)]
          ((received s).mapLanes fun l L =>
            if fills l then { L with counterLatch := some { time := s.clock, values := L.counters } } else L))) ∧
    (∀ mask : Byte, 16 ≤ mask.toNat → RefusedAs (.latchCounters [mask]) 0x04 s) ∧
    (∀ l : LaneId,
      exec (.clearCounters [laneByte l]) s =
        .next (replied 0x4E [laneByte l] [0x00]
          ((received s).modLane l fun L => { L with counters := Vector.replicate 12 0 })))

/-- No step of the part changes the kind, source, time or detail of a locked Fault Record or lowers its further count,
but for CLEAR_FAULT, RESET_LANE, the resets, and frames that can be one of these requests. A fault offered to an
unlocked record locks it with its kind, source, time and detail and a further count of 0; a locked one counts it
further, saturating at 255. No step of the part changes a full counter latch, but for READ_COUNTERS, RESET_LANE, the
resets, and frames that can be one of these requests. -/
def Obligations.LockedFaultAndLatchKept : Prop :=
  ((∀ (l : LaneId) (kind : FaultKind) (source : FaultSource) (detail : Nat) (s : State),
    offerFault l kind source detail s = s.modLane l fun L =>
      { L with fault :=
          if L.fault.locked = true then { L.fault with further := min (L.fault.further + 1) 255 }
          else { locked := true, kind := kind, source := source, time := s.clock, detail := BitVec.ofNat 16 detail, further := 0 } }) ∧
  ∀ (i : Instr) (l : LaneId) (s t : State), exec i s = .next t → clearsFault i = false → (s.lane l).fault.locked = true →
    (t.lane l).fault.locked = true ∧ (t.lane l).fault.kind = (s.lane l).fault.kind ∧
      (t.lane l).fault.source = (s.lane l).fault.source ∧ (t.lane l).fault.time = (s.lane l).fault.time ∧
      (t.lane l).fault.detail = (s.lane l).fault.detail ∧
      min (s.lane l).fault.further 255 ≤ (t.lane l).fault.further) ∧
  (∀ (i : Instr) (l : LaneId) (image : LatchImage) (s t : State), exec i s = .next t → emptiesLatch i = false →
    (s.lane l).counterLatch = some image → (t.lane l).counterLatch = some image)

/-- The state after power-on reset keeps the laws of the Event Store, of store-high, of the outputs, of the drawers,
of READY lanes, of driven rows, of held keys, of the recent-code tables, of the Fault Records, of sizes and of setting
ranges. -/
def Obligations.ResetKeepsTheLaws : Prop :=
  StoreLaw State.reset ∧ HighLaw State.reset ∧ OutputLaw State.reset ∧ DrawerLaw State.reset ∧ ReadyLaw State.reset ∧
    RowLaw State.reset ∧ HeldLaw State.reset ∧ RecentLaw State.reset ∧ FaultLaw State.reset ∧ SizeLaw State.reset ∧ RangeLaw State.reset

/-- From every state in which no lane is above its cap, the reserves sum to at most 512, the shared use is within the
shared part and the occupancies sum to at most 512, every step leads to such a state. -/
def Obligations.StoreLawKept : Prop :=
  ∀ s t : State, StoreLaw s → step s = .next t → StoreLaw t

/-- From every state in which store-high is as R129 judges it and every output is as R73 and R169 give it, every step
leads to such a state; and in such a state both HOLD outputs of a lane are asserted whenever its headroom is below its
hold margin or it is not RUNNING. The end of an event judges these outputs so and changes nothing else. Both are
stored, and judged once, at the end of an event (log entry 13). -/
def Obligations.HoldAndAttnLawKept : Prop :=
  (∀ s : State,
    let asserted := fun (L : Lane) (P : Port) => decide
      (L.run ≠ .running ∨ P.cfg.enabled = false ∨ P.slot ≠ none ∨ L.storeHigh = true ∨ scanAllowed L = false)
    settle s = { (s.mapLanes fun _ L =>
        { L with portA := { L.portA with hold := asserted L L.portA }, portB := { L.portB with hold := asserted L L.portB } }) with
      attn := decide
        (deviceFlags s &&& s.deviceEnable ≠ 0 ∨ ∃ l : LaneId, laneFlags (s.lane l) &&& (s.lane l).enable ≠ 0) }) ∧
  (∀ s t : State, HighLaw s → OutputLaw s → step s = .next t → HighLaw t ∧ OutputLaw t) ∧
    ∀ (s : State) (l : LaneId), HighLaw s → OutputLaw s →
      headroom s l < (s.lane l).cfg.margin ∨ (s.lane l).run ≠ .running →
      (s.lane l).portA.hold = true ∧ (s.lane l).portB.hold = true

/-- From every state in which each kick output is on exactly in KICK_PULSE, no drawer kicks while INH_N is asserted,
tries and kick timers are idle outside a kick, the open timer is stopped outside OPEN, and a READY lane's drawer is in
SETTLING, every step leads to such a state. -/
def Obligations.DrawerLawKept : Prop :=
  ∀ s t : State, DrawerLaw s → step s = .next t → DrawerLaw t

/-- From every state in which each READY lane makes no passes, drives no row, has every position UP, no held key and
lock position NONE, its ports ignoring their lines with empty buffers, slots and queues and no expectation, and its
drawer in SETTLING unwatched, every step leads to such a state. And from every state in which a row in its turn is a
configured row of a RUNNING lane, every step leads to such a state. -/
def Obligations.ReadyLawKept : Prop :=
  (∀ s t : State, ReadyLaw s → step s = .next t → ReadyLaw t) ∧ ∀ s t : State, RowLaw s → step s = .next t → RowLaw t

/-- From every state in which READY lanes are at rest, the held-key list holds each position once and exactly the
positions DOWN or RELEASE_PENDING, and the counted keys do not exceed the rollover limit, every step leads to such a
held-key list and count. -/
def Obligations.HeldKeysLawKept : Prop :=
  ∀ s t : State, HeldLaw s → ReadyLaw s → step s = .next t → HeldLaw t

/-- From every state in which each recent-code table holds at most 8 entries with no two equal codes, every step leads
to such a state; and so for the Fault Records: further count at most 255, and an unlocked record zeroed. From every
state whose buffers, saturating counts and stored records are within their sizes, every step leads to such a state;
and so for the lane, port, drawer, Symbology Table and filter settings within the ranges of their tables. -/
def Obligations.StoredValueLawsKept : Prop :=
  ((∀ s t : State, RecentLaw s → step s = .next t → RecentLaw t) ∧ ∀ s t : State, FaultLaw s → step s = .next t → FaultLaw t) ∧
  ((∀ s t : State, SizeLaw s → step s = .next t → SizeLaw t) ∧ ∀ s t : State, RangeLaw s → step s = .next t → RangeLaw t)

/-- Whatever an event of a lane does, every other lane keeps its whole section but for its store-high state, HIGH, its
growth mark and its HOLD outputs; and the device section keeps everything but ATTN. Of its sticky flags only HIGH can
have been raised, which takes it alone out of the reported set, and it is raised where store-high is entered. A change
of a lane section or a port changes that section or port alone. The growth mark is log entry 21, and the stored
outputs log entry 13. -/
def Obligations.LaneEventsStayInTheirLane : Prop :=
  (∀ (s : State) (l k : LaneId) (f : Lane → Lane) (g : LaneId → Lane → Lane),
    s.lane l = s.lanes[l] ∧ (s.modLane l f).lane k = (if k = l then f (s.lane k) else s.lane k) ∧
      (s.mapLanes g).lane k = g k (s.lane k) ∧ s.modLane l f = { s with lanes := (s.modLane l f).lanes } ∧
      s.mapLanes g = { s with lanes := (s.mapLanes g).lanes } ∧ s.setLane l (f (s.lane l)) = s.modLane l f) ∧
  (∀ (s : State) (l : LaneId) (f : Port → Port),
    s.port l .A = (s.lane l).portA ∧ s.port l .B = (s.lane l).portB ∧
      s.modPort l .A f = s.modLane l (fun L => { L with portA := f L.portA }) ∧
      s.modPort l .B f = s.modLane l (fun L => { L with portB := f L.portB })) ∧
  ∀ (i : Instr) (l k : LaneId) (s t : State), laneOf i = some l → k ≠ l → exec i s = .next t →
    OnlyStoreMoved (s.lane k) (t.lane k) ∧ t = { s with lanes := t.lanes, attn := t.attn }
end

