-- ==== Sys2Proof/Laws/State.lean ====
section
/-! SUPPORT. What each update of the state leaves and writes, field by field, so that no later proof unfolds a record
update. -/

namespace Sys2Proof.Machine

/-! ### Lane sections of the part -/

@[simp] theorem State.lane_setLane (s : State) (l k : LaneId) (L : Lane) :
    (s.setLane l L).lane k = if k = l then L else s.lane k := by
  by_cases h : k = l
  · subst h; simp [State.lane, State.setLane]
  · have h' : l.val ≠ k.val := fun e => h (Fin.ext e.symm)
    simp [State.lane, State.setLane, h, h']

@[simp] theorem State.lane_modLane (s : State) (l k : LaneId) (f : Lane → Lane) :
    (s.modLane l f).lane k = if k = l then f (s.lane k) else s.lane k := by
  by_cases h : k = l
  · subst h; simp [State.modLane]
  · simp [State.modLane, h]

theorem State.lane_modLane_same (s : State) (l : LaneId) (f : Lane → Lane) : (s.modLane l f).lane l = f (s.lane l) := by
  simp

theorem State.lane_modLane_other (s : State) (f : Lane → Lane) {l k : LaneId} (h : k ≠ l) :
    (s.modLane l f).lane k = s.lane k := by simp [h]

@[simp] theorem State.lane_mapLanes (s : State) (f : LaneId → Lane → Lane) (k : LaneId) :
    (s.mapLanes f).lane k = f k (s.lane k) := by
  match k with
  | 0 => rfl
  | 1 => rfl
  | 2 => rfl
  | 3 => rfl

/-- Two parts that differ in no lane section and are otherwise equal are equal. -/
theorem State.ext_lanes {s t : State} (h : ∀ l : LaneId, s.lane l = t.lane l)
    (h' : { s with lanes := t.lanes } = t) : s = t := by
  have e : s.lanes = t.lanes := by
    apply Vector.ext
    intro i hi
    exact h ⟨i, hi⟩
  rw [← h', ← e]

/-! ### The device section under updates of lanes -/

@[simp] theorem State.setLane_pending (s : State) (l : LaneId) (L : Lane) : (s.setLane l L).pending = s.pending := rfl
@[simp] theorem State.setLane_symbology (s : State) (l : LaneId) (L : Lane) : (s.setLane l L).symbology = s.symbology := rfl
@[simp] theorem State.setLane_strict (s : State) (l : LaneId) (L : Lane) : (s.setLane l L).strict = s.strict := rfl
@[simp] theorem State.setLane_sameWindow (s : State) (l : LaneId) (L : Lane) : (s.setLane l L).sameWindow = s.sameWindow := rfl
@[simp] theorem State.setLane_crossWindow (s : State) (l : LaneId) (L : Lane) : (s.setLane l L).crossWindow = s.crossWindow := rfl
@[simp] theorem State.setLane_clock (s : State) (l : LaneId) (L : Lane) : (s.setLane l L).clock = s.clock := rfl
@[simp] theorem State.setLane_elapsed (s : State) (l : LaneId) (L : Lane) : (s.setLane l L).elapsed = s.elapsed := rfl
@[simp] theorem State.setLane_link (s : State) (l : LaneId) (L : Lane) : (s.setLane l L).link = s.link := rfl
@[simp] theorem State.setLane_linkReported (s : State) (l : LaneId) (L : Lane) : (s.setLane l L).linkReported = s.linkReported := rfl
@[simp] theorem State.setLane_deviceEnable (s : State) (l : LaneId) (L : Lane) : (s.setLane l L).deviceEnable = s.deviceEnable := rfl
@[simp] theorem State.setLane_attn (s : State) (l : LaneId) (L : Lane) : (s.setLane l L).attn = s.attn := rfl
@[simp] theorem State.setLane_inhibit (s : State) (l : LaneId) (L : Lane) : (s.setLane l L).inhibit = s.inhibit := rfl
@[simp] theorem State.setLane_straps (s : State) (l : LaneId) (L : Lane) : (s.setLane l L).straps = s.straps := rfl
@[simp] theorem State.setLane_rate (s : State) (l : LaneId) (L : Lane) : (s.setLane l L).rate = s.rate := rfl
@[simp] theorem State.setLane_rx (s : State) (l : LaneId) (L : Lane) : (s.setLane l L).rx = s.rx := rfl
@[simp] theorem State.setLane_lineGap (s : State) (l : LaneId) (L : Lane) : (s.setLane l L).lineGap = s.lineGap := rfl
@[simp] theorem State.setLane_lineStart (s : State) (l : LaneId) (L : Lane) : (s.setLane l L).lineStart = s.lineStart := rfl
@[simp] theorem State.setLane_lineDrop (s : State) (l : LaneId) (L : Lane) : (s.setLane l L).lineDrop = s.lineDrop := rfl
@[simp] theorem State.setLane_area (s : State) (l : LaneId) (L : Lane) : (s.setLane l L).area = s.area := rfl
@[simp] theorem State.setLane_resetArmed (s : State) (l : LaneId) (L : Lane) : (s.setLane l L).resetArmed = s.resetArmed := rfl
@[simp] theorem State.setLane_badFrames (s : State) (l : LaneId) (L : Lane) : (s.setLane l L).badFrames = s.badFrames := rfl
@[simp] theorem State.setLane_overruns (s : State) (l : LaneId) (L : Lane) : (s.setLane l L).overruns = s.overruns := rfl

@[simp] theorem State.modLane_pending (s : State) (l : LaneId) (f : Lane → Lane) : (s.modLane l f).pending = s.pending := rfl
@[simp] theorem State.modLane_symbology (s : State) (l : LaneId) (f : Lane → Lane) : (s.modLane l f).symbology = s.symbology := rfl
@[simp] theorem State.modLane_strict (s : State) (l : LaneId) (f : Lane → Lane) : (s.modLane l f).strict = s.strict := rfl
@[simp] theorem State.modLane_sameWindow (s : State) (l : LaneId) (f : Lane → Lane) : (s.modLane l f).sameWindow = s.sameWindow := rfl
@[simp] theorem State.modLane_crossWindow (s : State) (l : LaneId) (f : Lane → Lane) : (s.modLane l f).crossWindow = s.crossWindow := rfl
@[simp] theorem State.modLane_clock (s : State) (l : LaneId) (f : Lane → Lane) : (s.modLane l f).clock = s.clock := rfl
@[simp] theorem State.modLane_elapsed (s : State) (l : LaneId) (f : Lane → Lane) : (s.modLane l f).elapsed = s.elapsed := rfl
@[simp] theorem State.modLane_link (s : State) (l : LaneId) (f : Lane → Lane) : (s.modLane l f).link = s.link := rfl
@[simp] theorem State.modLane_linkReported (s : State) (l : LaneId) (f : Lane → Lane) : (s.modLane l f).linkReported = s.linkReported := rfl
@[simp] theorem State.modLane_deviceEnable (s : State) (l : LaneId) (f : Lane → Lane) : (s.modLane l f).deviceEnable = s.deviceEnable := rfl
@[simp] theorem State.modLane_attn (s : State) (l : LaneId) (f : Lane → Lane) : (s.modLane l f).attn = s.attn := rfl
@[simp] theorem State.modLane_inhibit (s : State) (l : LaneId) (f : Lane → Lane) : (s.modLane l f).inhibit = s.inhibit := rfl
@[simp] theorem State.modLane_straps (s : State) (l : LaneId) (f : Lane → Lane) : (s.modLane l f).straps = s.straps := rfl
@[simp] theorem State.modLane_rate (s : State) (l : LaneId) (f : Lane → Lane) : (s.modLane l f).rate = s.rate := rfl
@[simp] theorem State.modLane_rx (s : State) (l : LaneId) (f : Lane → Lane) : (s.modLane l f).rx = s.rx := rfl
@[simp] theorem State.modLane_lineGap (s : State) (l : LaneId) (f : Lane → Lane) : (s.modLane l f).lineGap = s.lineGap := rfl
@[simp] theorem State.modLane_lineStart (s : State) (l : LaneId) (f : Lane → Lane) : (s.modLane l f).lineStart = s.lineStart := rfl
@[simp] theorem State.modLane_lineDrop (s : State) (l : LaneId) (f : Lane → Lane) : (s.modLane l f).lineDrop = s.lineDrop := rfl
@[simp] theorem State.modLane_area (s : State) (l : LaneId) (f : Lane → Lane) : (s.modLane l f).area = s.area := rfl
@[simp] theorem State.modLane_resetArmed (s : State) (l : LaneId) (f : Lane → Lane) : (s.modLane l f).resetArmed = s.resetArmed := rfl
@[simp] theorem State.modLane_badFrames (s : State) (l : LaneId) (f : Lane → Lane) : (s.modLane l f).badFrames = s.badFrames := rfl
@[simp] theorem State.modLane_overruns (s : State) (l : LaneId) (f : Lane → Lane) : (s.modLane l f).overruns = s.overruns := rfl

@[simp] theorem State.mapLanes_pending (s : State) (f : LaneId → Lane → Lane) : (s.mapLanes f).pending = s.pending := rfl
@[simp] theorem State.mapLanes_symbology (s : State) (f : LaneId → Lane → Lane) : (s.mapLanes f).symbology = s.symbology := rfl
@[simp] theorem State.mapLanes_strict (s : State) (f : LaneId → Lane → Lane) : (s.mapLanes f).strict = s.strict := rfl
@[simp] theorem State.mapLanes_sameWindow (s : State) (f : LaneId → Lane → Lane) : (s.mapLanes f).sameWindow = s.sameWindow := rfl
@[simp] theorem State.mapLanes_crossWindow (s : State) (f : LaneId → Lane → Lane) : (s.mapLanes f).crossWindow = s.crossWindow := rfl
@[simp] theorem State.mapLanes_clock (s : State) (f : LaneId → Lane → Lane) : (s.mapLanes f).clock = s.clock := rfl
@[simp] theorem State.mapLanes_elapsed (s : State) (f : LaneId → Lane → Lane) : (s.mapLanes f).elapsed = s.elapsed := rfl
@[simp] theorem State.mapLanes_link (s : State) (f : LaneId → Lane → Lane) : (s.mapLanes f).link = s.link := rfl
@[simp] theorem State.mapLanes_linkReported (s : State) (f : LaneId → Lane → Lane) : (s.mapLanes f).linkReported = s.linkReported := rfl
@[simp] theorem State.mapLanes_deviceEnable (s : State) (f : LaneId → Lane → Lane) : (s.mapLanes f).deviceEnable = s.deviceEnable := rfl
@[simp] theorem State.mapLanes_attn (s : State) (f : LaneId → Lane → Lane) : (s.mapLanes f).attn = s.attn := rfl
@[simp] theorem State.mapLanes_inhibit (s : State) (f : LaneId → Lane → Lane) : (s.mapLanes f).inhibit = s.inhibit := rfl
@[simp] theorem State.mapLanes_straps (s : State) (f : LaneId → Lane → Lane) : (s.mapLanes f).straps = s.straps := rfl
@[simp] theorem State.mapLanes_rate (s : State) (f : LaneId → Lane → Lane) : (s.mapLanes f).rate = s.rate := rfl
@[simp] theorem State.mapLanes_rx (s : State) (f : LaneId → Lane → Lane) : (s.mapLanes f).rx = s.rx := rfl
@[simp] theorem State.mapLanes_lineGap (s : State) (f : LaneId → Lane → Lane) : (s.mapLanes f).lineGap = s.lineGap := rfl
@[simp] theorem State.mapLanes_lineStart (s : State) (f : LaneId → Lane → Lane) : (s.mapLanes f).lineStart = s.lineStart := rfl
@[simp] theorem State.mapLanes_lineDrop (s : State) (f : LaneId → Lane → Lane) : (s.mapLanes f).lineDrop = s.lineDrop := rfl
@[simp] theorem State.mapLanes_area (s : State) (f : LaneId → Lane → Lane) : (s.mapLanes f).area = s.area := rfl
@[simp] theorem State.mapLanes_resetArmed (s : State) (f : LaneId → Lane → Lane) : (s.mapLanes f).resetArmed = s.resetArmed := rfl
@[simp] theorem State.mapLanes_badFrames (s : State) (f : LaneId → Lane → Lane) : (s.mapLanes f).badFrames = s.badFrames := rfl
@[simp] theorem State.mapLanes_overruns (s : State) (f : LaneId → Lane → Lane) : (s.mapLanes f).overruns = s.overruns := rfl

/-! ### Ports of a lane section -/

@[simp] theorem Lane.port_A (L : Lane) : L.port .A = L.portA := rfl
@[simp] theorem Lane.port_B (L : Lane) : L.port .B = L.portB := rfl
@[simp] theorem Lane.modPort_A (L : Lane) (f : Port → Port) : L.modPort .A f = { L with portA := f L.portA } := rfl
@[simp] theorem Lane.modPort_B (L : Lane) (f : Port → Port) : L.modPort .B f = { L with portB := f L.portB } := rfl

@[simp] theorem Lane.port_modPort_same (L : Lane) (p : PortId) (f : Port → Port) : (L.modPort p f).port p = f (L.port p) := by
  cases p <;> rfl

theorem Lane.port_modPort_other (L : Lane) (f : Port → Port) {p q : PortId} (h : q ≠ p) :
    (L.modPort p f).port q = L.port q := by
  cases p <;> cases q <;> first | rfl | exact absurd rfl h

@[simp] theorem Lane.modPort_run (L : Lane) (p : PortId) (f : Port → Port) : (L.modPort p f).run = L.run := by
  cases p <;> rfl
@[simp] theorem Lane.modPort_cfg (L : Lane) (p : PortId) (f : Port → Port) : (L.modPort p f).cfg = L.cfg := by
  cases p <;> rfl
@[simp] theorem Lane.modPort_lineLatch (L : Lane) (p : PortId) (f : Port → Port) : (L.modPort p f).lineLatch = L.lineLatch := by
  cases p <;> rfl
@[simp] theorem Lane.modPort_lineDir (L : Lane) (p : PortId) (f : Port → Port) : (L.modPort p f).lineDir = L.lineDir := by
  cases p <;> rfl
@[simp] theorem Lane.modPort_pullUp (L : Lane) (p : PortId) (f : Port → Port) : (L.modPort p f).pullUp = L.pullUp := by
  cases p <;> rfl
@[simp] theorem Lane.modPort_lineLevel (L : Lane) (p : PortId) (f : Port → Port) : (L.modPort p f).lineLevel = L.lineLevel := by
  cases p <;> rfl
@[simp] theorem Lane.modPort_lineAttached (L : Lane) (p : PortId) (f : Port → Port) : (L.modPort p f).lineAttached = L.lineAttached := by
  cases p <;> rfl
@[simp] theorem Lane.modPort_rowTurn (L : Lane) (p : PortId) (f : Port → Port) : (L.modPort p f).rowTurn = L.rowTurn := by
  cases p <;> rfl
@[simp] theorem Lane.modPort_contacts (L : Lane) (p : PortId) (f : Port → Port) : (L.modPort p f).contacts = L.contacts := by
  cases p <;> rfl
@[simp] theorem Lane.modPort_keys (L : Lane) (p : PortId) (f : Port → Port) : (L.modPort p f).keys = L.keys := by
  cases p <;> rfl
@[simp] theorem Lane.modPort_ghost (L : Lane) (p : PortId) (f : Port → Port) : (L.modPort p f).ghost = L.ghost := by
  cases p <;> rfl
@[simp] theorem Lane.modPort_passTimer (L : Lane) (p : PortId) (f : Port → Port) : (L.modPort p f).passTimer = L.passTimer := by
  cases p <;> rfl
@[simp] theorem Lane.modPort_keymap (L : Lane) (p : PortId) (f : Port → Port) : (L.modPort p f).keymap = L.keymap := by
  cases p <;> rfl
@[simp] theorem Lane.modPort_held (L : Lane) (p : PortId) (f : Port → Port) : (L.modPort p f).held = L.held := by
  cases p <;> rfl
@[simp] theorem Lane.modPort_repeating (L : Lane) (p : PortId) (f : Port → Port) : (L.modPort p f).repeating = L.repeating := by
  cases p <;> rfl
@[simp] theorem Lane.modPort_lock (L : Lane) (p : PortId) (f : Port → Port) : (L.modPort p f).lock = L.lock := by
  cases p <;> rfl
@[simp] theorem Lane.modPort_lastLock (L : Lane) (p : PortId) (f : Port → Port) : (L.modPort p f).lastLock = L.lastLock := by
  cases p <;> rfl
@[simp] theorem Lane.modPort_recent (L : Lane) (p : PortId) (f : Port → Port) : (L.modPort p f).recent = L.recent := by
  cases p <;> rfl
@[simp] theorem Lane.modPort_drawer (L : Lane) (p : PortId) (f : Port → Port) : (L.modPort p f).drawer = L.drawer := by
  cases p <;> rfl
@[simp] theorem Lane.modPort_fault (L : Lane) (p : PortId) (f : Port → Port) : (L.modPort p f).fault = L.fault := by
  cases p <;> rfl
@[simp] theorem Lane.modPort_counters (L : Lane) (p : PortId) (f : Port → Port) : (L.modPort p f).counters = L.counters := by
  cases p <;> rfl
@[simp] theorem Lane.modPort_counterLatch (L : Lane) (p : PortId) (f : Port → Port) : (L.modPort p f).counterLatch = L.counterLatch := by
  cases p <;> rfl
@[simp] theorem Lane.modPort_queue (L : Lane) (p : PortId) (f : Port → Port) : (L.modPort p f).queue = L.queue := by
  cases p <;> rfl
@[simp] theorem Lane.modPort_lost (L : Lane) (p : PortId) (f : Port → Port) : (L.modPort p f).lost = L.lost := by
  cases p <;> rfl
@[simp] theorem Lane.modPort_storeHigh (L : Lane) (p : PortId) (f : Port → Port) : (L.modPort p f).storeHigh = L.storeHigh := by
  cases p <;> rfl
@[simp] theorem Lane.modPort_growth (L : Lane) (p : PortId) (f : Port → Port) : (L.modPort p f).growth = L.growth := by
  cases p <;> rfl
@[simp] theorem Lane.modPort_sticky (L : Lane) (p : PortId) (f : Port → Port) : (L.modPort p f).sticky = L.sticky := by
  cases p <;> rfl
@[simp] theorem Lane.modPort_reported (L : Lane) (p : PortId) (f : Port → Port) : (L.modPort p f).reported = L.reported := by
  cases p <;> rfl
@[simp] theorem Lane.modPort_enable (L : Lane) (p : PortId) (f : Port → Port) : (L.modPort p f).enable = L.enable := by
  cases p <;> rfl

/-! ### A lane section under raises, counts and the queue -/

@[simp] theorem raiseLane_run (f : Byte) (L : Lane) : (raiseLane f L).run = L.run := rfl
@[simp] theorem raiseLane_cfg (f : Byte) (L : Lane) : (raiseLane f L).cfg = L.cfg := rfl
@[simp] theorem raiseLane_lineLatch (f : Byte) (L : Lane) : (raiseLane f L).lineLatch = L.lineLatch := rfl
@[simp] theorem raiseLane_lineDir (f : Byte) (L : Lane) : (raiseLane f L).lineDir = L.lineDir := rfl
@[simp] theorem raiseLane_pullUp (f : Byte) (L : Lane) : (raiseLane f L).pullUp = L.pullUp := rfl
@[simp] theorem raiseLane_lineLevel (f : Byte) (L : Lane) : (raiseLane f L).lineLevel = L.lineLevel := rfl
@[simp] theorem raiseLane_lineAttached (f : Byte) (L : Lane) : (raiseLane f L).lineAttached = L.lineAttached := rfl
@[simp] theorem raiseLane_rowTurn (f : Byte) (L : Lane) : (raiseLane f L).rowTurn = L.rowTurn := rfl
@[simp] theorem raiseLane_contacts (f : Byte) (L : Lane) : (raiseLane f L).contacts = L.contacts := rfl
@[simp] theorem raiseLane_keys (f : Byte) (L : Lane) : (raiseLane f L).keys = L.keys := rfl
@[simp] theorem raiseLane_ghost (f : Byte) (L : Lane) : (raiseLane f L).ghost = L.ghost := rfl
@[simp] theorem raiseLane_passTimer (f : Byte) (L : Lane) : (raiseLane f L).passTimer = L.passTimer := rfl
@[simp] theorem raiseLane_keymap (f : Byte) (L : Lane) : (raiseLane f L).keymap = L.keymap := rfl
@[simp] theorem raiseLane_held (f : Byte) (L : Lane) : (raiseLane f L).held = L.held := rfl
@[simp] theorem raiseLane_repeating (f : Byte) (L : Lane) : (raiseLane f L).repeating = L.repeating := rfl
@[simp] theorem raiseLane_lock (f : Byte) (L : Lane) : (raiseLane f L).lock = L.lock := rfl
@[simp] theorem raiseLane_lastLock (f : Byte) (L : Lane) : (raiseLane f L).lastLock = L.lastLock := rfl
@[simp] theorem raiseLane_portA (f : Byte) (L : Lane) : (raiseLane f L).portA = L.portA := rfl
@[simp] theorem raiseLane_portB (f : Byte) (L : Lane) : (raiseLane f L).portB = L.portB := rfl
@[simp] theorem raiseLane_recent (f : Byte) (L : Lane) : (raiseLane f L).recent = L.recent := rfl
@[simp] theorem raiseLane_drawer (f : Byte) (L : Lane) : (raiseLane f L).drawer = L.drawer := rfl
@[simp] theorem raiseLane_fault (f : Byte) (L : Lane) : (raiseLane f L).fault = L.fault := rfl
@[simp] theorem raiseLane_counters (f : Byte) (L : Lane) : (raiseLane f L).counters = L.counters := rfl
@[simp] theorem raiseLane_counterLatch (f : Byte) (L : Lane) : (raiseLane f L).counterLatch = L.counterLatch := rfl
@[simp] theorem raiseLane_queue (f : Byte) (L : Lane) : (raiseLane f L).queue = L.queue := rfl
@[simp] theorem raiseLane_lost (f : Byte) (L : Lane) : (raiseLane f L).lost = L.lost := rfl
@[simp] theorem raiseLane_storeHigh (f : Byte) (L : Lane) : (raiseLane f L).storeHigh = L.storeHigh := rfl
@[simp] theorem raiseLane_growth (f : Byte) (L : Lane) : (raiseLane f L).growth = L.growth := rfl
@[simp] theorem raiseLane_enable (f : Byte) (L : Lane) : (raiseLane f L).enable = L.enable := rfl

@[simp] theorem countLane_run (c : Counter) (L : Lane) : (countLane c L).run = L.run := rfl
@[simp] theorem countLane_cfg (c : Counter) (L : Lane) : (countLane c L).cfg = L.cfg := rfl
@[simp] theorem countLane_lineLatch (c : Counter) (L : Lane) : (countLane c L).lineLatch = L.lineLatch := rfl
@[simp] theorem countLane_lineDir (c : Counter) (L : Lane) : (countLane c L).lineDir = L.lineDir := rfl
@[simp] theorem countLane_pullUp (c : Counter) (L : Lane) : (countLane c L).pullUp = L.pullUp := rfl
@[simp] theorem countLane_lineLevel (c : Counter) (L : Lane) : (countLane c L).lineLevel = L.lineLevel := rfl
@[simp] theorem countLane_lineAttached (c : Counter) (L : Lane) : (countLane c L).lineAttached = L.lineAttached := rfl
@[simp] theorem countLane_rowTurn (c : Counter) (L : Lane) : (countLane c L).rowTurn = L.rowTurn := rfl
@[simp] theorem countLane_contacts (c : Counter) (L : Lane) : (countLane c L).contacts = L.contacts := rfl
@[simp] theorem countLane_keys (c : Counter) (L : Lane) : (countLane c L).keys = L.keys := rfl
@[simp] theorem countLane_ghost (c : Counter) (L : Lane) : (countLane c L).ghost = L.ghost := rfl
@[simp] theorem countLane_passTimer (c : Counter) (L : Lane) : (countLane c L).passTimer = L.passTimer := rfl
@[simp] theorem countLane_keymap (c : Counter) (L : Lane) : (countLane c L).keymap = L.keymap := rfl
@[simp] theorem countLane_held (c : Counter) (L : Lane) : (countLane c L).held = L.held := rfl
@[simp] theorem countLane_repeating (c : Counter) (L : Lane) : (countLane c L).repeating = L.repeating := rfl
@[simp] theorem countLane_lock (c : Counter) (L : Lane) : (countLane c L).lock = L.lock := rfl
@[simp] theorem countLane_lastLock (c : Counter) (L : Lane) : (countLane c L).lastLock = L.lastLock := rfl
@[simp] theorem countLane_portA (c : Counter) (L : Lane) : (countLane c L).portA = L.portA := rfl
@[simp] theorem countLane_portB (c : Counter) (L : Lane) : (countLane c L).portB = L.portB := rfl
@[simp] theorem countLane_recent (c : Counter) (L : Lane) : (countLane c L).recent = L.recent := rfl
@[simp] theorem countLane_drawer (c : Counter) (L : Lane) : (countLane c L).drawer = L.drawer := rfl
@[simp] theorem countLane_fault (c : Counter) (L : Lane) : (countLane c L).fault = L.fault := rfl
@[simp] theorem countLane_counterLatch (c : Counter) (L : Lane) : (countLane c L).counterLatch = L.counterLatch := rfl
@[simp] theorem countLane_queue (c : Counter) (L : Lane) : (countLane c L).queue = L.queue := rfl
@[simp] theorem countLane_lost (c : Counter) (L : Lane) : (countLane c L).lost = L.lost := rfl
@[simp] theorem countLane_storeHigh (c : Counter) (L : Lane) : (countLane c L).storeHigh = L.storeHigh := rfl
@[simp] theorem countLane_growth (c : Counter) (L : Lane) : (countLane c L).growth = L.growth := rfl
@[simp] theorem countLane_sticky (c : Counter) (L : Lane) : (countLane c L).sticky = L.sticky := rfl
@[simp] theorem countLane_reported (c : Counter) (L : Lane) : (countLane c L).reported = L.reported := rfl
@[simp] theorem countLane_enable (c : Counter) (L : Lane) : (countLane c L).enable = L.enable := rfl

@[simp] theorem joinQueue_run (r : Rec) (L : Lane) : (joinQueue r L).run = L.run := rfl
@[simp] theorem joinQueue_cfg (r : Rec) (L : Lane) : (joinQueue r L).cfg = L.cfg := rfl
@[simp] theorem joinQueue_lineLatch (r : Rec) (L : Lane) : (joinQueue r L).lineLatch = L.lineLatch := rfl
@[simp] theorem joinQueue_lineDir (r : Rec) (L : Lane) : (joinQueue r L).lineDir = L.lineDir := rfl
@[simp] theorem joinQueue_pullUp (r : Rec) (L : Lane) : (joinQueue r L).pullUp = L.pullUp := rfl
@[simp] theorem joinQueue_lineLevel (r : Rec) (L : Lane) : (joinQueue r L).lineLevel = L.lineLevel := rfl
@[simp] theorem joinQueue_lineAttached (r : Rec) (L : Lane) : (joinQueue r L).lineAttached = L.lineAttached := rfl
@[simp] theorem joinQueue_rowTurn (r : Rec) (L : Lane) : (joinQueue r L).rowTurn = L.rowTurn := rfl
@[simp] theorem joinQueue_contacts (r : Rec) (L : Lane) : (joinQueue r L).contacts = L.contacts := rfl
@[simp] theorem joinQueue_keys (r : Rec) (L : Lane) : (joinQueue r L).keys = L.keys := rfl
@[simp] theorem joinQueue_ghost (r : Rec) (L : Lane) : (joinQueue r L).ghost = L.ghost := rfl
@[simp] theorem joinQueue_passTimer (r : Rec) (L : Lane) : (joinQueue r L).passTimer = L.passTimer := rfl
@[simp] theorem joinQueue_keymap (r : Rec) (L : Lane) : (joinQueue r L).keymap = L.keymap := rfl
@[simp] theorem joinQueue_held (r : Rec) (L : Lane) : (joinQueue r L).held = L.held := rfl
@[simp] theorem joinQueue_repeating (r : Rec) (L : Lane) : (joinQueue r L).repeating = L.repeating := rfl
@[simp] theorem joinQueue_lock (r : Rec) (L : Lane) : (joinQueue r L).lock = L.lock := rfl
@[simp] theorem joinQueue_lastLock (r : Rec) (L : Lane) : (joinQueue r L).lastLock = L.lastLock := rfl
@[simp] theorem joinQueue_portA (r : Rec) (L : Lane) : (joinQueue r L).portA = L.portA := rfl
@[simp] theorem joinQueue_portB (r : Rec) (L : Lane) : (joinQueue r L).portB = L.portB := rfl
@[simp] theorem joinQueue_recent (r : Rec) (L : Lane) : (joinQueue r L).recent = L.recent := rfl
@[simp] theorem joinQueue_drawer (r : Rec) (L : Lane) : (joinQueue r L).drawer = L.drawer := rfl
@[simp] theorem joinQueue_fault (r : Rec) (L : Lane) : (joinQueue r L).fault = L.fault := rfl
@[simp] theorem joinQueue_counters (r : Rec) (L : Lane) : (joinQueue r L).counters = L.counters := rfl
@[simp] theorem joinQueue_counterLatch (r : Rec) (L : Lane) : (joinQueue r L).counterLatch = L.counterLatch := rfl
@[simp] theorem joinQueue_storeHigh (r : Rec) (L : Lane) : (joinQueue r L).storeHigh = L.storeHigh := rfl
@[simp] theorem joinQueue_growth (r : Rec) (L : Lane) : (joinQueue r L).growth = L.growth := rfl
@[simp] theorem joinQueue_sticky (r : Rec) (L : Lane) : (joinQueue r L).sticky = L.sticky := rfl
@[simp] theorem joinQueue_reported (r : Rec) (L : Lane) : (joinQueue r L).reported = L.reported := rfl
@[simp] theorem joinQueue_enable (r : Rec) (L : Lane) : (joinQueue r L).enable = L.enable := rfl

@[simp] theorem loseLane_run (L : Lane) : (loseLane L).run = L.run := rfl
@[simp] theorem loseLane_cfg (L : Lane) : (loseLane L).cfg = L.cfg := rfl
@[simp] theorem loseLane_lineLatch (L : Lane) : (loseLane L).lineLatch = L.lineLatch := rfl
@[simp] theorem loseLane_lineDir (L : Lane) : (loseLane L).lineDir = L.lineDir := rfl
@[simp] theorem loseLane_pullUp (L : Lane) : (loseLane L).pullUp = L.pullUp := rfl
@[simp] theorem loseLane_lineLevel (L : Lane) : (loseLane L).lineLevel = L.lineLevel := rfl
@[simp] theorem loseLane_lineAttached (L : Lane) : (loseLane L).lineAttached = L.lineAttached := rfl
@[simp] theorem loseLane_rowTurn (L : Lane) : (loseLane L).rowTurn = L.rowTurn := rfl
@[simp] theorem loseLane_contacts (L : Lane) : (loseLane L).contacts = L.contacts := rfl
@[simp] theorem loseLane_keys (L : Lane) : (loseLane L).keys = L.keys := rfl
@[simp] theorem loseLane_ghost (L : Lane) : (loseLane L).ghost = L.ghost := rfl
@[simp] theorem loseLane_passTimer (L : Lane) : (loseLane L).passTimer = L.passTimer := rfl
@[simp] theorem loseLane_keymap (L : Lane) : (loseLane L).keymap = L.keymap := rfl
@[simp] theorem loseLane_held (L : Lane) : (loseLane L).held = L.held := rfl
@[simp] theorem loseLane_repeating (L : Lane) : (loseLane L).repeating = L.repeating := rfl
@[simp] theorem loseLane_lock (L : Lane) : (loseLane L).lock = L.lock := rfl
@[simp] theorem loseLane_lastLock (L : Lane) : (loseLane L).lastLock = L.lastLock := rfl
@[simp] theorem loseLane_portA (L : Lane) : (loseLane L).portA = L.portA := rfl
@[simp] theorem loseLane_portB (L : Lane) : (loseLane L).portB = L.portB := rfl
@[simp] theorem loseLane_recent (L : Lane) : (loseLane L).recent = L.recent := rfl
@[simp] theorem loseLane_drawer (L : Lane) : (loseLane L).drawer = L.drawer := rfl
@[simp] theorem loseLane_fault (L : Lane) : (loseLane L).fault = L.fault := rfl
@[simp] theorem loseLane_counterLatch (L : Lane) : (loseLane L).counterLatch = L.counterLatch := rfl
@[simp] theorem loseLane_queue (L : Lane) : (loseLane L).queue = L.queue := rfl
@[simp] theorem loseLane_storeHigh (L : Lane) : (loseLane L).storeHigh = L.storeHigh := rfl
@[simp] theorem loseLane_growth (L : Lane) : (loseLane L).growth = L.growth := rfl
@[simp] theorem loseLane_enable (L : Lane) : (loseLane L).enable = L.enable := rfl

@[simp] theorem settleLane_run (L : Lane) : (settleLane L).run = L.run := rfl
@[simp] theorem settleLane_cfg (L : Lane) : (settleLane L).cfg = L.cfg := rfl
@[simp] theorem settleLane_lineLatch (L : Lane) : (settleLane L).lineLatch = L.lineLatch := rfl
@[simp] theorem settleLane_lineDir (L : Lane) : (settleLane L).lineDir = L.lineDir := rfl
@[simp] theorem settleLane_pullUp (L : Lane) : (settleLane L).pullUp = L.pullUp := rfl
@[simp] theorem settleLane_lineLevel (L : Lane) : (settleLane L).lineLevel = L.lineLevel := rfl
@[simp] theorem settleLane_lineAttached (L : Lane) : (settleLane L).lineAttached = L.lineAttached := rfl
@[simp] theorem settleLane_rowTurn (L : Lane) : (settleLane L).rowTurn = L.rowTurn := rfl
@[simp] theorem settleLane_contacts (L : Lane) : (settleLane L).contacts = L.contacts := rfl
@[simp] theorem settleLane_keys (L : Lane) : (settleLane L).keys = L.keys := rfl
@[simp] theorem settleLane_ghost (L : Lane) : (settleLane L).ghost = L.ghost := rfl
@[simp] theorem settleLane_passTimer (L : Lane) : (settleLane L).passTimer = L.passTimer := rfl
@[simp] theorem settleLane_keymap (L : Lane) : (settleLane L).keymap = L.keymap := rfl
@[simp] theorem settleLane_held (L : Lane) : (settleLane L).held = L.held := rfl
@[simp] theorem settleLane_repeating (L : Lane) : (settleLane L).repeating = L.repeating := rfl
@[simp] theorem settleLane_lock (L : Lane) : (settleLane L).lock = L.lock := rfl
@[simp] theorem settleLane_lastLock (L : Lane) : (settleLane L).lastLock = L.lastLock := rfl
@[simp] theorem settleLane_recent (L : Lane) : (settleLane L).recent = L.recent := rfl
@[simp] theorem settleLane_drawer (L : Lane) : (settleLane L).drawer = L.drawer := rfl
@[simp] theorem settleLane_fault (L : Lane) : (settleLane L).fault = L.fault := rfl
@[simp] theorem settleLane_counters (L : Lane) : (settleLane L).counters = L.counters := rfl
@[simp] theorem settleLane_counterLatch (L : Lane) : (settleLane L).counterLatch = L.counterLatch := rfl
@[simp] theorem settleLane_queue (L : Lane) : (settleLane L).queue = L.queue := rfl
@[simp] theorem settleLane_lost (L : Lane) : (settleLane L).lost = L.lost := rfl
@[simp] theorem settleLane_storeHigh (L : Lane) : (settleLane L).storeHigh = L.storeHigh := rfl
@[simp] theorem settleLane_growth (L : Lane) : (settleLane L).growth = L.growth := rfl
@[simp] theorem settleLane_sticky (L : Lane) : (settleLane L).sticky = L.sticky := rfl
@[simp] theorem settleLane_reported (L : Lane) : (settleLane L).reported = L.reported := rfl
@[simp] theorem settleLane_enable (L : Lane) : (settleLane L).enable = L.enable := rfl

@[simp] theorem raiseLane_sticky (f : Byte) (L : Lane) : (raiseLane f L).sticky = L.sticky ||| f := rfl
@[simp] theorem raiseLane_reported (f : Byte) (L : Lane) : (raiseLane f L).reported = L.reported &&& ~~~f := rfl
@[simp] theorem joinQueue_lost (r : Rec) (L : Lane) : (joinQueue r L).lost = 0 := rfl
@[simp] theorem loseLane_lost (L : Lane) : (loseLane L).lost = min (L.lost + 1) 255 := rfl

end Sys2Proof.Machine
end

