-- ==== Sys2Proof/Laws/Ops.lean ====
section
/-! SUPPORT. For each shared operation, once, what it can do: sums over the lanes, the recompute, admissions, offers and
losses, faults and counts, attempts and their slots, and the outputs judged at the end of an event. -/

namespace Sys2Proof.Machine

/-! ### Sums over the lanes -/

theorem sumLanes_eq (f : Lane → Nat) (s : State) :
    sumLanes f s = f (s.lane 0) + f (s.lane 1) + f (s.lane 2) + f (s.lane 3) := by
  have h : s.lanes = #v[s.lane 0, s.lane 1, s.lane 2, s.lane 3] := by
    apply Vector.ext
    intro i hi
    match i, hi with
    | 0, _ => rfl
    | 1, _ => rfl
    | 2, _ => rfl
    | 3, _ => rfl
  rw [sumLanes, h]
  simp [Nat.add_assoc]

/-- A change of one lane section moves a sum by that lane's part alone. -/
theorem sumLanes_modLane (f : Lane → Nat) (s : State) (l : LaneId) (g : Lane → Lane) :
    sumLanes f (s.modLane l g) + f (s.lane l) = sumLanes f s + f (g (s.lane l)) := by
  simp only [sumLanes_eq, State.lane_modLane]
  match l with
  | 0 => simp; omega
  | 1 => simp; omega
  | 2 => simp; omega
  | 3 => simp; omega

/-- A change of the lane sections that keeps a quantity of each keeps its sum. -/
theorem sumLanes_congr (f : Lane → Nat) {s t : State} (h : ∀ l : LaneId, f (s.lane l) = f (t.lane l)) :
    sumLanes f s = sumLanes f t := by
  simp [sumLanes_eq, h]

theorem le_sumLanes (f : Lane → Nat) (s : State) (l : LaneId) : f (s.lane l) ≤ sumLanes f s := by
  rw [sumLanes_eq]
  match l with
  | 0 => omega
  | 1 => omega
  | 2 => omega
  | 3 => omega

/-! ### Headroom -/

/-- The headroom of a lane is that of another part with the same configurations and queues. -/
theorem headroom_congr {s t : State} (h : ∀ l : LaneId, (s.lane l).cfg = (t.lane l).cfg ∧ (s.lane l).queue = (t.lane l).queue)
    (l : LaneId) : headroom s l = headroom t l := by
  have ho : ∀ k : LaneId, occupancy (s.lane k) = occupancy (t.lane k) := fun k => by simp [occupancy, (h k).2]
  have hu : ∀ k : LaneId, sharedUse (s.lane k) = sharedUse (t.lane k) := fun k => by simp [sharedUse, ho k, (h k).1]
  have hr : sumLanes (fun L => L.cfg.reserve) s = sumLanes (fun L => L.cfg.reserve) t :=
    sumLanes_congr _ fun k => by simp [(h k).1]
  simp [headroom, headroomOf, freeShared, sharedPart, hr, sumLanes_congr _ hu, ho, (h l).1]

theorem occupancy_joinQueue (r : Rec) (L : Lane) : occupancy (joinQueue r L) = occupancy L + recordSlots r.body := by
  simp [occupancy, joinQueue]

theorem fits_iff (s : State) (l : LaneId) (b : RecBody) : fits s l b = true ↔ recordSlots b ≤ headroom s l := by
  simp [fits]

/-! ### The recompute -/

@[simp] theorem recomputeLane_run (b a : Nat) (L : Lane) : (recomputeLane b a L).run = L.run := by
  simp only [recomputeLane]; split <;> rfl
@[simp] theorem recomputeLane_cfg (b a : Nat) (L : Lane) : (recomputeLane b a L).cfg = L.cfg := by
  simp only [recomputeLane]; split <;> rfl
@[simp] theorem recomputeLane_lineLatch (b a : Nat) (L : Lane) : (recomputeLane b a L).lineLatch = L.lineLatch := by
  simp only [recomputeLane]; split <;> rfl
@[simp] theorem recomputeLane_lineDir (b a : Nat) (L : Lane) : (recomputeLane b a L).lineDir = L.lineDir := by
  simp only [recomputeLane]; split <;> rfl
@[simp] theorem recomputeLane_pullUp (b a : Nat) (L : Lane) : (recomputeLane b a L).pullUp = L.pullUp := by
  simp only [recomputeLane]; split <;> rfl
@[simp] theorem recomputeLane_lineLevel (b a : Nat) (L : Lane) : (recomputeLane b a L).lineLevel = L.lineLevel := by
  simp only [recomputeLane]; split <;> rfl
@[simp] theorem recomputeLane_lineAttached (b a : Nat) (L : Lane) : (recomputeLane b a L).lineAttached = L.lineAttached := by
  simp only [recomputeLane]; split <;> rfl
@[simp] theorem recomputeLane_rowTurn (b a : Nat) (L : Lane) : (recomputeLane b a L).rowTurn = L.rowTurn := by
  simp only [recomputeLane]; split <;> rfl
@[simp] theorem recomputeLane_contacts (b a : Nat) (L : Lane) : (recomputeLane b a L).contacts = L.contacts := by
  simp only [recomputeLane]; split <;> rfl
@[simp] theorem recomputeLane_keys (b a : Nat) (L : Lane) : (recomputeLane b a L).keys = L.keys := by
  simp only [recomputeLane]; split <;> rfl
@[simp] theorem recomputeLane_ghost (b a : Nat) (L : Lane) : (recomputeLane b a L).ghost = L.ghost := by
  simp only [recomputeLane]; split <;> rfl
@[simp] theorem recomputeLane_passTimer (b a : Nat) (L : Lane) : (recomputeLane b a L).passTimer = L.passTimer := by
  simp only [recomputeLane]; split <;> rfl
@[simp] theorem recomputeLane_keymap (b a : Nat) (L : Lane) : (recomputeLane b a L).keymap = L.keymap := by
  simp only [recomputeLane]; split <;> rfl
@[simp] theorem recomputeLane_held (b a : Nat) (L : Lane) : (recomputeLane b a L).held = L.held := by
  simp only [recomputeLane]; split <;> rfl
@[simp] theorem recomputeLane_repeating (b a : Nat) (L : Lane) : (recomputeLane b a L).repeating = L.repeating := by
  simp only [recomputeLane]; split <;> rfl
@[simp] theorem recomputeLane_lock (b a : Nat) (L : Lane) : (recomputeLane b a L).lock = L.lock := by
  simp only [recomputeLane]; split <;> rfl
@[simp] theorem recomputeLane_lastLock (b a : Nat) (L : Lane) : (recomputeLane b a L).lastLock = L.lastLock := by
  simp only [recomputeLane]; split <;> rfl
@[simp] theorem recomputeLane_portA (b a : Nat) (L : Lane) : (recomputeLane b a L).portA = L.portA := by
  simp only [recomputeLane]; split <;> rfl
@[simp] theorem recomputeLane_portB (b a : Nat) (L : Lane) : (recomputeLane b a L).portB = L.portB := by
  simp only [recomputeLane]; split <;> rfl
@[simp] theorem recomputeLane_recent (b a : Nat) (L : Lane) : (recomputeLane b a L).recent = L.recent := by
  simp only [recomputeLane]; split <;> rfl
@[simp] theorem recomputeLane_drawer (b a : Nat) (L : Lane) : (recomputeLane b a L).drawer = L.drawer := by
  simp only [recomputeLane]; split <;> rfl
@[simp] theorem recomputeLane_fault (b a : Nat) (L : Lane) : (recomputeLane b a L).fault = L.fault := by
  simp only [recomputeLane]; split <;> rfl
@[simp] theorem recomputeLane_counters (b a : Nat) (L : Lane) : (recomputeLane b a L).counters = L.counters := by
  simp only [recomputeLane]; split <;> rfl
@[simp] theorem recomputeLane_counterLatch (b a : Nat) (L : Lane) : (recomputeLane b a L).counterLatch = L.counterLatch := by
  simp only [recomputeLane]; split <;> rfl
@[simp] theorem recomputeLane_queue (b a : Nat) (L : Lane) : (recomputeLane b a L).queue = L.queue := by
  simp only [recomputeLane]; split <;> rfl
@[simp] theorem recomputeLane_lost (b a : Nat) (L : Lane) : (recomputeLane b a L).lost = L.lost := by
  simp only [recomputeLane]; split <;> rfl
@[simp] theorem recomputeLane_enable (b a : Nat) (L : Lane) : (recomputeLane b a L).enable = L.enable := by
  simp only [recomputeLane]; split <;> rfl

@[simp] theorem recomputeLane_storeHigh (b a : Nat) (L : Lane) :
    (recomputeLane b a L).storeHigh = judgeHigh a L.cfg.margin L.cfg.hysteresis L.storeHigh := rfl

@[simp] theorem recomputeLane_growth (b a : Nat) (L : Lane) :
    (recomputeLane b a L).growth = (L.growth || decide (b < a)) := by
  rfl

/-- Everything a recompute does to a lane section: store-high judged, HIGH raised at its entry, growth marked. -/
theorem recomputeLane_eq (b a : Nat) (L : Lane) :
    recomputeLane b a L =
      { (if judgeHigh a L.cfg.margin L.cfg.hysteresis L.storeHigh && !L.storeHigh then raiseLane flagHigh L else L) with
        storeHigh := judgeHigh a L.cfg.margin L.cfg.hysteresis L.storeHigh, growth := L.growth || decide (b < a) } := by
  rfl

@[simp] theorem lane_recompute (old s : State) (l : LaneId) :
    (recompute old s).lane l = recomputeLane (headroom old l) (headroom s l) (s.lane l) := by
  simp [recompute]

@[simp] theorem recompute_pending (old s : State) : (recompute old s).pending = s.pending := rfl
@[simp] theorem recompute_symbology (old s : State) : (recompute old s).symbology = s.symbology := rfl
@[simp] theorem recompute_strict (old s : State) : (recompute old s).strict = s.strict := rfl
@[simp] theorem recompute_sameWindow (old s : State) : (recompute old s).sameWindow = s.sameWindow := rfl
@[simp] theorem recompute_crossWindow (old s : State) : (recompute old s).crossWindow = s.crossWindow := rfl
@[simp] theorem recompute_clock (old s : State) : (recompute old s).clock = s.clock := rfl
@[simp] theorem recompute_elapsed (old s : State) : (recompute old s).elapsed = s.elapsed := rfl
@[simp] theorem recompute_link (old s : State) : (recompute old s).link = s.link := rfl
@[simp] theorem recompute_linkReported (old s : State) : (recompute old s).linkReported = s.linkReported := rfl
@[simp] theorem recompute_deviceEnable (old s : State) : (recompute old s).deviceEnable = s.deviceEnable := rfl
@[simp] theorem recompute_attn (old s : State) : (recompute old s).attn = s.attn := rfl
@[simp] theorem recompute_inhibit (old s : State) : (recompute old s).inhibit = s.inhibit := rfl
@[simp] theorem recompute_straps (old s : State) : (recompute old s).straps = s.straps := rfl
@[simp] theorem recompute_rate (old s : State) : (recompute old s).rate = s.rate := rfl
@[simp] theorem recompute_rx (old s : State) : (recompute old s).rx = s.rx := rfl
@[simp] theorem recompute_lineGap (old s : State) : (recompute old s).lineGap = s.lineGap := rfl
@[simp] theorem recompute_lineStart (old s : State) : (recompute old s).lineStart = s.lineStart := rfl
@[simp] theorem recompute_lineDrop (old s : State) : (recompute old s).lineDrop = s.lineDrop := rfl
@[simp] theorem recompute_area (old s : State) : (recompute old s).area = s.area := rfl
@[simp] theorem recompute_resetArmed (old s : State) : (recompute old s).resetArmed = s.resetArmed := rfl
@[simp] theorem recompute_badFrames (old s : State) : (recompute old s).badFrames = s.badFrames := rfl
@[simp] theorem recompute_overruns (old s : State) : (recompute old s).overruns = s.overruns := rfl

/-- A recompute moves no headroom. -/
@[simp] theorem headroom_recompute (old s : State) (l : LaneId) : headroom (recompute old s) l = headroom s l :=
  headroom_congr (fun k => by simp) l

/-! ### Admissions, offers and losses -/

/-- An offer is an admission when the record fits the headroom (R122). -/
theorem offer_of_fits {l : LaneId} {b : RecBody} {f : RecFlags} {s : State} (h : recordSlots b ≤ headroom s l) :
    offer l b f s = admitRecord l { body := b, flags := f, stamp := s.clock } s := by
  simp [offer, fits, h]

/-- An offer is a loss when the record does not fit (R123). -/
theorem offer_of_not_fits {l : LaneId} {b : RecBody} {f : RecFlags} {s : State} (h : headroom s l < recordSlots b) :
    offer l b f s = lose l s := by
  simp [offer, fits, Nat.not_le.mpr h]

/-- An offer does one of two things. -/
theorem offer_cases (l : LaneId) (b : RecBody) (f : RecFlags) (s : State) :
    (recordSlots b ≤ headroom s l ∧ offer l b f s = admitRecord l { body := b, flags := f, stamp := s.clock } s) ∨
      (headroom s l < recordSlots b ∧ offer l b f s = lose l s) := by
  by_cases h : recordSlots b ≤ headroom s l
  · exact .inl ⟨h, offer_of_fits h⟩
  · exact .inr ⟨Nat.not_le.mp h, offer_of_not_fits (Nat.not_le.mp h)⟩

/-- The lane sections after an admission. -/
theorem lane_admit (l k : LaneId) (r : Rec) (s : State) :
    (admitRecord l r s).lane k =
      recomputeLane (headroom s k) (headroom (s.modLane l (joinQueue r)) k) (if k = l then joinQueue r (s.lane k) else s.lane k) := by
  simp [admitRecord]

/-- The lane queue after an admission: the record at its tail, with the pending-loss count (R122). -/
theorem admit_queue (l : LaneId) (r : Rec) (s : State) :
    ((admitRecord l r s).lane l).queue = (s.lane l).queue ++ [{ r with lostBefore := (s.lane l).lost }] := by
  simp [lane_admit, joinQueue]

theorem lane_lose (l k : LaneId) (s : State) : (lose l s).lane k = if k = l then loseLane (s.lane k) else s.lane k := by
  simp [lose]

@[simp] theorem offer_lane_run (l k : LaneId) (b : RecBody) (f : RecFlags) (s : State) :
    ((offer l b f s).lane k).run = (s.lane k).run := by
  rcases offer_cases l b f s with ⟨_, h⟩ | ⟨_, h⟩ <;> rw [h] <;> simp [lane_admit, lane_lose] <;> split <;> rfl
@[simp] theorem offer_lane_cfg (l k : LaneId) (b : RecBody) (f : RecFlags) (s : State) :
    ((offer l b f s).lane k).cfg = (s.lane k).cfg := by
  rcases offer_cases l b f s with ⟨_, h⟩ | ⟨_, h⟩ <;> rw [h] <;> simp [lane_admit, lane_lose] <;> split <;> rfl
@[simp] theorem offer_lane_lineLatch (l k : LaneId) (b : RecBody) (f : RecFlags) (s : State) :
    ((offer l b f s).lane k).lineLatch = (s.lane k).lineLatch := by
  rcases offer_cases l b f s with ⟨_, h⟩ | ⟨_, h⟩ <;> rw [h] <;> simp [lane_admit, lane_lose] <;> split <;> rfl
@[simp] theorem offer_lane_lineDir (l k : LaneId) (b : RecBody) (f : RecFlags) (s : State) :
    ((offer l b f s).lane k).lineDir = (s.lane k).lineDir := by
  rcases offer_cases l b f s with ⟨_, h⟩ | ⟨_, h⟩ <;> rw [h] <;> simp [lane_admit, lane_lose] <;> split <;> rfl
@[simp] theorem offer_lane_pullUp (l k : LaneId) (b : RecBody) (f : RecFlags) (s : State) :
    ((offer l b f s).lane k).pullUp = (s.lane k).pullUp := by
  rcases offer_cases l b f s with ⟨_, h⟩ | ⟨_, h⟩ <;> rw [h] <;> simp [lane_admit, lane_lose] <;> split <;> rfl
@[simp] theorem offer_lane_lineLevel (l k : LaneId) (b : RecBody) (f : RecFlags) (s : State) :
    ((offer l b f s).lane k).lineLevel = (s.lane k).lineLevel := by
  rcases offer_cases l b f s with ⟨_, h⟩ | ⟨_, h⟩ <;> rw [h] <;> simp [lane_admit, lane_lose] <;> split <;> rfl
@[simp] theorem offer_lane_lineAttached (l k : LaneId) (b : RecBody) (f : RecFlags) (s : State) :
    ((offer l b f s).lane k).lineAttached = (s.lane k).lineAttached := by
  rcases offer_cases l b f s with ⟨_, h⟩ | ⟨_, h⟩ <;> rw [h] <;> simp [lane_admit, lane_lose] <;> split <;> rfl
@[simp] theorem offer_lane_rowTurn (l k : LaneId) (b : RecBody) (f : RecFlags) (s : State) :
    ((offer l b f s).lane k).rowTurn = (s.lane k).rowTurn := by
  rcases offer_cases l b f s with ⟨_, h⟩ | ⟨_, h⟩ <;> rw [h] <;> simp [lane_admit, lane_lose] <;> split <;> rfl
@[simp] theorem offer_lane_contacts (l k : LaneId) (b : RecBody) (f : RecFlags) (s : State) :
    ((offer l b f s).lane k).contacts = (s.lane k).contacts := by
  rcases offer_cases l b f s with ⟨_, h⟩ | ⟨_, h⟩ <;> rw [h] <;> simp [lane_admit, lane_lose] <;> split <;> rfl
@[simp] theorem offer_lane_keys (l k : LaneId) (b : RecBody) (f : RecFlags) (s : State) :
    ((offer l b f s).lane k).keys = (s.lane k).keys := by
  rcases offer_cases l b f s with ⟨_, h⟩ | ⟨_, h⟩ <;> rw [h] <;> simp [lane_admit, lane_lose] <;> split <;> rfl
@[simp] theorem offer_lane_ghost (l k : LaneId) (b : RecBody) (f : RecFlags) (s : State) :
    ((offer l b f s).lane k).ghost = (s.lane k).ghost := by
  rcases offer_cases l b f s with ⟨_, h⟩ | ⟨_, h⟩ <;> rw [h] <;> simp [lane_admit, lane_lose] <;> split <;> rfl
@[simp] theorem offer_lane_passTimer (l k : LaneId) (b : RecBody) (f : RecFlags) (s : State) :
    ((offer l b f s).lane k).passTimer = (s.lane k).passTimer := by
  rcases offer_cases l b f s with ⟨_, h⟩ | ⟨_, h⟩ <;> rw [h] <;> simp [lane_admit, lane_lose] <;> split <;> rfl
@[simp] theorem offer_lane_keymap (l k : LaneId) (b : RecBody) (f : RecFlags) (s : State) :
    ((offer l b f s).lane k).keymap = (s.lane k).keymap := by
  rcases offer_cases l b f s with ⟨_, h⟩ | ⟨_, h⟩ <;> rw [h] <;> simp [lane_admit, lane_lose] <;> split <;> rfl
@[simp] theorem offer_lane_held (l k : LaneId) (b : RecBody) (f : RecFlags) (s : State) :
    ((offer l b f s).lane k).held = (s.lane k).held := by
  rcases offer_cases l b f s with ⟨_, h⟩ | ⟨_, h⟩ <;> rw [h] <;> simp [lane_admit, lane_lose] <;> split <;> rfl
@[simp] theorem offer_lane_repeating (l k : LaneId) (b : RecBody) (f : RecFlags) (s : State) :
    ((offer l b f s).lane k).repeating = (s.lane k).repeating := by
  rcases offer_cases l b f s with ⟨_, h⟩ | ⟨_, h⟩ <;> rw [h] <;> simp [lane_admit, lane_lose] <;> split <;> rfl
@[simp] theorem offer_lane_lock (l k : LaneId) (b : RecBody) (f : RecFlags) (s : State) :
    ((offer l b f s).lane k).lock = (s.lane k).lock := by
  rcases offer_cases l b f s with ⟨_, h⟩ | ⟨_, h⟩ <;> rw [h] <;> simp [lane_admit, lane_lose] <;> split <;> rfl
@[simp] theorem offer_lane_lastLock (l k : LaneId) (b : RecBody) (f : RecFlags) (s : State) :
    ((offer l b f s).lane k).lastLock = (s.lane k).lastLock := by
  rcases offer_cases l b f s with ⟨_, h⟩ | ⟨_, h⟩ <;> rw [h] <;> simp [lane_admit, lane_lose] <;> split <;> rfl
@[simp] theorem offer_lane_portA (l k : LaneId) (b : RecBody) (f : RecFlags) (s : State) :
    ((offer l b f s).lane k).portA = (s.lane k).portA := by
  rcases offer_cases l b f s with ⟨_, h⟩ | ⟨_, h⟩ <;> rw [h] <;> simp [lane_admit, lane_lose] <;> split <;> rfl
@[simp] theorem offer_lane_portB (l k : LaneId) (b : RecBody) (f : RecFlags) (s : State) :
    ((offer l b f s).lane k).portB = (s.lane k).portB := by
  rcases offer_cases l b f s with ⟨_, h⟩ | ⟨_, h⟩ <;> rw [h] <;> simp [lane_admit, lane_lose] <;> split <;> rfl
@[simp] theorem offer_lane_recent (l k : LaneId) (b : RecBody) (f : RecFlags) (s : State) :
    ((offer l b f s).lane k).recent = (s.lane k).recent := by
  rcases offer_cases l b f s with ⟨_, h⟩ | ⟨_, h⟩ <;> rw [h] <;> simp [lane_admit, lane_lose] <;> split <;> rfl
@[simp] theorem offer_lane_drawer (l k : LaneId) (b : RecBody) (f : RecFlags) (s : State) :
    ((offer l b f s).lane k).drawer = (s.lane k).drawer := by
  rcases offer_cases l b f s with ⟨_, h⟩ | ⟨_, h⟩ <;> rw [h] <;> simp [lane_admit, lane_lose] <;> split <;> rfl
@[simp] theorem offer_lane_fault (l k : LaneId) (b : RecBody) (f : RecFlags) (s : State) :
    ((offer l b f s).lane k).fault = (s.lane k).fault := by
  rcases offer_cases l b f s with ⟨_, h⟩ | ⟨_, h⟩ <;> rw [h] <;> simp [lane_admit, lane_lose] <;> split <;> rfl
@[simp] theorem offer_lane_counterLatch (l k : LaneId) (b : RecBody) (f : RecFlags) (s : State) :
    ((offer l b f s).lane k).counterLatch = (s.lane k).counterLatch := by
  rcases offer_cases l b f s with ⟨_, h⟩ | ⟨_, h⟩ <;> rw [h] <;> simp [lane_admit, lane_lose] <;> split <;> rfl
@[simp] theorem offer_lane_enable (l k : LaneId) (b : RecBody) (f : RecFlags) (s : State) :
    ((offer l b f s).lane k).enable = (s.lane k).enable := by
  rcases offer_cases l b f s with ⟨_, h⟩ | ⟨_, h⟩ <;> rw [h] <;> simp [lane_admit, lane_lose] <;> split <;> rfl
@[simp] theorem offer_pending (l : LaneId) (b : RecBody) (f : RecFlags) (s : State) : (offer l b f s).pending = s.pending := by
  rcases offer_cases l b f s with ⟨_, h⟩ | ⟨_, h⟩ <;> rw [h] <;> rfl
@[simp] theorem offer_symbology (l : LaneId) (b : RecBody) (f : RecFlags) (s : State) : (offer l b f s).symbology = s.symbology := by
  rcases offer_cases l b f s with ⟨_, h⟩ | ⟨_, h⟩ <;> rw [h] <;> rfl
@[simp] theorem offer_strict (l : LaneId) (b : RecBody) (f : RecFlags) (s : State) : (offer l b f s).strict = s.strict := by
  rcases offer_cases l b f s with ⟨_, h⟩ | ⟨_, h⟩ <;> rw [h] <;> rfl
@[simp] theorem offer_sameWindow (l : LaneId) (b : RecBody) (f : RecFlags) (s : State) : (offer l b f s).sameWindow = s.sameWindow := by
  rcases offer_cases l b f s with ⟨_, h⟩ | ⟨_, h⟩ <;> rw [h] <;> rfl
@[simp] theorem offer_crossWindow (l : LaneId) (b : RecBody) (f : RecFlags) (s : State) : (offer l b f s).crossWindow = s.crossWindow := by
  rcases offer_cases l b f s with ⟨_, h⟩ | ⟨_, h⟩ <;> rw [h] <;> rfl
@[simp] theorem offer_clock (l : LaneId) (b : RecBody) (f : RecFlags) (s : State) : (offer l b f s).clock = s.clock := by
  rcases offer_cases l b f s with ⟨_, h⟩ | ⟨_, h⟩ <;> rw [h] <;> rfl
@[simp] theorem offer_elapsed (l : LaneId) (b : RecBody) (f : RecFlags) (s : State) : (offer l b f s).elapsed = s.elapsed := by
  rcases offer_cases l b f s with ⟨_, h⟩ | ⟨_, h⟩ <;> rw [h] <;> rfl
@[simp] theorem offer_link (l : LaneId) (b : RecBody) (f : RecFlags) (s : State) : (offer l b f s).link = s.link := by
  rcases offer_cases l b f s with ⟨_, h⟩ | ⟨_, h⟩ <;> rw [h] <;> rfl
@[simp] theorem offer_linkReported (l : LaneId) (b : RecBody) (f : RecFlags) (s : State) : (offer l b f s).linkReported = s.linkReported := by
  rcases offer_cases l b f s with ⟨_, h⟩ | ⟨_, h⟩ <;> rw [h] <;> rfl
@[simp] theorem offer_deviceEnable (l : LaneId) (b : RecBody) (f : RecFlags) (s : State) : (offer l b f s).deviceEnable = s.deviceEnable := by
  rcases offer_cases l b f s with ⟨_, h⟩ | ⟨_, h⟩ <;> rw [h] <;> rfl
@[simp] theorem offer_attn (l : LaneId) (b : RecBody) (f : RecFlags) (s : State) : (offer l b f s).attn = s.attn := by
  rcases offer_cases l b f s with ⟨_, h⟩ | ⟨_, h⟩ <;> rw [h] <;> rfl
@[simp] theorem offer_inhibit (l : LaneId) (b : RecBody) (f : RecFlags) (s : State) : (offer l b f s).inhibit = s.inhibit := by
  rcases offer_cases l b f s with ⟨_, h⟩ | ⟨_, h⟩ <;> rw [h] <;> rfl
@[simp] theorem offer_straps (l : LaneId) (b : RecBody) (f : RecFlags) (s : State) : (offer l b f s).straps = s.straps := by
  rcases offer_cases l b f s with ⟨_, h⟩ | ⟨_, h⟩ <;> rw [h] <;> rfl
@[simp] theorem offer_rate (l : LaneId) (b : RecBody) (f : RecFlags) (s : State) : (offer l b f s).rate = s.rate := by
  rcases offer_cases l b f s with ⟨_, h⟩ | ⟨_, h⟩ <;> rw [h] <;> rfl
@[simp] theorem offer_rx (l : LaneId) (b : RecBody) (f : RecFlags) (s : State) : (offer l b f s).rx = s.rx := by
  rcases offer_cases l b f s with ⟨_, h⟩ | ⟨_, h⟩ <;> rw [h] <;> rfl
@[simp] theorem offer_lineGap (l : LaneId) (b : RecBody) (f : RecFlags) (s : State) : (offer l b f s).lineGap = s.lineGap := by
  rcases offer_cases l b f s with ⟨_, h⟩ | ⟨_, h⟩ <;> rw [h] <;> rfl
@[simp] theorem offer_lineStart (l : LaneId) (b : RecBody) (f : RecFlags) (s : State) : (offer l b f s).lineStart = s.lineStart := by
  rcases offer_cases l b f s with ⟨_, h⟩ | ⟨_, h⟩ <;> rw [h] <;> rfl
@[simp] theorem offer_lineDrop (l : LaneId) (b : RecBody) (f : RecFlags) (s : State) : (offer l b f s).lineDrop = s.lineDrop := by
  rcases offer_cases l b f s with ⟨_, h⟩ | ⟨_, h⟩ <;> rw [h] <;> rfl
@[simp] theorem offer_area (l : LaneId) (b : RecBody) (f : RecFlags) (s : State) : (offer l b f s).area = s.area := by
  rcases offer_cases l b f s with ⟨_, h⟩ | ⟨_, h⟩ <;> rw [h] <;> rfl
@[simp] theorem offer_resetArmed (l : LaneId) (b : RecBody) (f : RecFlags) (s : State) : (offer l b f s).resetArmed = s.resetArmed := by
  rcases offer_cases l b f s with ⟨_, h⟩ | ⟨_, h⟩ <;> rw [h] <;> rfl
@[simp] theorem offer_badFrames (l : LaneId) (b : RecBody) (f : RecFlags) (s : State) : (offer l b f s).badFrames = s.badFrames := by
  rcases offer_cases l b f s with ⟨_, h⟩ | ⟨_, h⟩ <;> rw [h] <;> rfl
@[simp] theorem offer_overruns (l : LaneId) (b : RecBody) (f : RecFlags) (s : State) : (offer l b f s).overruns = s.overruns := by
  rcases offer_cases l b f s with ⟨_, h⟩ | ⟨_, h⟩ <;> rw [h] <;> rfl

/-! ### Rows in their turn, and the idle part -/

@[simp] theorem nextRow_rowTurn (L : Lane) : (nextRow L).rowTurn = some (L.rowTurn.elim 0 (· + 1)) := by
  simp only [nextRow]
  cases L.rowTurn <;> rfl
@[simp] theorem pinsGiven_lineLevel (pins : PinInputs) (L : Lane) : (pinsGiven pins L).lineLevel = pins.level := rfl
@[simp] theorem pinsGiven_lineAttached (pins : PinInputs) (L : Lane) : (pinsGiven pins L).lineAttached = pins.attached := rfl
@[simp] theorem pinsGiven_contacts (pins : PinInputs) (L : Lane) : (pinsGiven pins L).contacts = pins.contacts := rfl
@[simp] theorem pinsGiven_rowTurn (pins : PinInputs) (L : Lane) : (pinsGiven pins L).rowTurn = L.rowTurn := rfl
@[simp] theorem pinsGiven_run (pins : PinInputs) (L : Lane) : (pinsGiven pins L).run = L.run := rfl
@[simp] theorem pinsGiven_cfg (pins : PinInputs) (L : Lane) : (pinsGiven pins L).cfg = L.cfg := rfl

theorem toNat_byteOf_lane (l : LaneId) : (byteOf l.val).toNat = l.val := by
  match l with
  | 0 => rfl
  | 1 => rfl
  | 2 => rfl
  | 3 => rfl

/-- A body of the right length that names a lane is judged by its block (R188). -/
theorem withLane_lane {n : Nat} (serve : LaneId → Request) (l : LaneId) {rest : List Byte} (h : rest.length + 1 = n) {s : State} :
    withLane n serve (byteOf l.val :: rest) s = serve l (byteOf l.val :: rest) s := by
  simp [withLane, toNat_byteOf_lane, h]

/-- A LINES_READ of a lane gives that lane what the outside gives it now, and replies from it; nothing else of the part is
touched (R16). -/
theorem serveLinesRead_lane (outside : Outside) (l : LaneId) (s : State) :
    serveLinesRead outside [byteOf l.val] s =
      (s.modLane l (pinsGiven outside[l]), linesReply l (pinsGiven outside[l] (s.lane l))) := by
  unfold serveLinesRead
  rw [withLane_lane (n := 1) _ l (rest := []) rfl]
  simp only [State.lane_modLane_same]

/-- A pass has a row left to drive exactly when it is due and the row in its turn, if any, is not the last. -/
theorem rowLeft_iff (s : State) (l : LaneId) :
    rowLeft s l = true ↔ passDue s l = true ∧ ∀ r, (s.lane l).rowTurn = some r → r + 1 < (s.lane l).cfg.rows := by
  unfold rowLeft
  split <;> simp_all

theorem rowsLeft_iff (s : State) : rowsLeft s = true ↔ ∃ l : LaneId, rowLeft s l = true := by
  constructor
  · intro h
    simp only [rowsLeft, Bool.or_eq_true] at h
    obtain ((h | h) | h) | h := h <;> exact ⟨_, h⟩
  · rintro ⟨l, h⟩
    match l with
    | 0 => simp [rowsLeft, h]
    | 1 => simp [rowsLeft, h]
    | 2 => simp [rowsLeft, h]
    | 3 => simp [rowsLeft, h]

@[simp] theorem lane_driveRows (s : State) (l : LaneId) :
    (driveRows s).lane l = if rowLeft s l then nextRow (s.lane l) else s.lane l := by simp [driveRows]

/-- All that an idle step can do: rows take their turns, a millisecond passes, or what is due is queued. -/
theorem idle_cases (s : State) :
    (rowsLeft s = true ∧ idle s = driveRows s) ∨
      (rowsLeft s = false ∧ dueEvents s = [] ∧ idle s = tick s) ∨
        (rowsLeft s = false ∧ dueEvents s ≠ [] ∧ idle s = { s with pending := dueEvents s }) := by
  unfold idle
  split
  · exact .inl ⟨‹_›, rfl⟩
  · split <;> simp_all

/-! ### Ports and hand-off slots -/

@[simp] theorem port_modPort_same (s : State) (l : LaneId) (p : PortId) (f : Port → Port) :
    (s.modPort l p f).port l p = f (s.port l p) := by
  simp [State.modPort, State.port]

theorem port_modPort_other (s : State) (l : LaneId) {p q : PortId} (h : q ≠ p) (f : Port → Port) :
    (s.modPort l p f).port l q = s.port l q := by
  cases p <;> cases q <;> simp_all [State.modPort, State.port, Lane.modPort, Lane.port]

@[simp] theorem admit_port (l : LaneId) (r : Rec) (s : State) (q : PortId) : (admitRecord l r s).port l q = s.port l q := by
  simp only [State.port, lane_admit]
  cases q <;> simp [Lane.port, joinQueue]

/-- An attempt that finishes empties the slot of the record it was made on (R97). -/
theorem attemptRecord_slot {l : LaneId} {p : PortId} {r : SlotRecord} {late : Bool} {s : State}
    (h : (attemptRecord l p r late s).2 = true) : ((attemptRecord l p r late s).1.port l p).slot = none := by
  revert h
  unfold attemptRecord
  cases screen s (s.lane l) p r with
  | suppress cross => intro _; cases p <;> simp [State.port, suppressLane, Lane.modPort, Lane.port]
  | accept index =>
    simp only; split
    · intro _; cases p <;> simp [State.port, acceptLane, Lane.modPort, Lane.port]
    · simp
  | reject reason index =>
    simp only; split
    · intro _; cases p <;> simp [State.port, rejectLane, Lane.modPort, Lane.port]
    · simp

/-- An attempt on one port's record leaves the other port as it is (R97). -/
theorem attemptRecord_other (l : LaneId) {p q : PortId} (h : q ≠ p) (r : SlotRecord) (late : Bool) (s : State) :
    (attemptRecord l p r late s).1.port l q = s.port l q := by
  have keep : ∀ (t : State) (f : Lane → Lane), (∀ L, (f L).port q = L.port q) → (t.modLane l f).port l q = t.port l q := by
    intro t f hf; simp only [State.port, State.lane_modLane_same]; exact hf _
  unfold attemptRecord
  cases screen s (s.lane l) p r with
  | suppress cross => exact keep _ _ fun L => by cases p <;> cases q <;> first | rfl | exact absurd rfl h
  | accept index =>
    simp only; split
    · exact (keep _ _ fun L => by cases p <;> cases q <;> first | rfl | exact absurd rfl h).trans (admit_port ..)
    · rfl
  | reject reason index =>
    simp only; split
    · exact (keep _ _ fun L => by cases p <;> cases q <;> first | rfl | exact absurd rfl h).trans (admit_port ..)
    · rfl

/-! ### The repeat of an end-of-pass notice -/

/-- All that the typematic work of a notice can do, with the store-high state that it reads. -/
theorem repeatNotice_cases (l : LaneId) (high : Bool) (s : State) :
    repeatNotice l high s = s ∨
      ∃ r h, (s.lane l).repeating = some r ∧ heldFind (s.lane l) r.pos = some h ∧ r.due ≤ s.elapsed ∧
        repeatNotice l high s = repeatFalls l high r h s := by
  unfold repeatNotice
  split
  · exact .inl rfl
  · split
    · exact .inl rfl
    · split
      · exact .inr ⟨_, _, ‹_›, ‹_›, ‹_›, rfl⟩
      · exact .inl rfl

/-! ### The end of an event -/

@[simp] theorem lane_settle (s : State) (l : LaneId) : (settle s).lane l = settleLane (s.lane l) := by
  show (s.mapLanes fun _ L => settleLane L).lane l = _
  simp

@[simp] theorem settle_pending (s : State) : (settle s).pending = s.pending := rfl
@[simp] theorem settle_symbology (s : State) : (settle s).symbology = s.symbology := rfl
@[simp] theorem settle_strict (s : State) : (settle s).strict = s.strict := rfl
@[simp] theorem settle_sameWindow (s : State) : (settle s).sameWindow = s.sameWindow := rfl
@[simp] theorem settle_crossWindow (s : State) : (settle s).crossWindow = s.crossWindow := rfl
@[simp] theorem settle_clock (s : State) : (settle s).clock = s.clock := rfl
@[simp] theorem settle_elapsed (s : State) : (settle s).elapsed = s.elapsed := rfl
@[simp] theorem settle_link (s : State) : (settle s).link = s.link := rfl
@[simp] theorem settle_linkReported (s : State) : (settle s).linkReported = s.linkReported := rfl
@[simp] theorem settle_deviceEnable (s : State) : (settle s).deviceEnable = s.deviceEnable := rfl
@[simp] theorem settle_inhibit (s : State) : (settle s).inhibit = s.inhibit := rfl
@[simp] theorem settle_straps (s : State) : (settle s).straps = s.straps := rfl
@[simp] theorem settle_rate (s : State) : (settle s).rate = s.rate := rfl
@[simp] theorem settle_rx (s : State) : (settle s).rx = s.rx := rfl
@[simp] theorem settle_lineGap (s : State) : (settle s).lineGap = s.lineGap := rfl
@[simp] theorem settle_lineStart (s : State) : (settle s).lineStart = s.lineStart := rfl
@[simp] theorem settle_lineDrop (s : State) : (settle s).lineDrop = s.lineDrop := rfl
@[simp] theorem settle_area (s : State) : (settle s).area = s.area := rfl
@[simp] theorem settle_resetArmed (s : State) : (settle s).resetArmed = s.resetArmed := rfl
@[simp] theorem settle_badFrames (s : State) : (settle s).badFrames = s.badFrames := rfl
@[simp] theorem settle_overruns (s : State) : (settle s).overruns = s.overruns := rfl

@[simp] theorem settleLane_portA (L : Lane) : (settleLane L).portA = { L.portA with hold := holdLevel L L.portA } := rfl
@[simp] theorem settleLane_portB (L : Lane) : (settleLane L).portB = { L.portB with hold := holdLevel L L.portB } := rfl

/-- Settled outputs do not change when they are settled again. -/
theorem settleLane_idem (L : Lane) : settleLane (settleLane L) = settleLane L := rfl

/-- Every command answers a next state, whose outputs have been judged. -/
theorem exec_settles (i : Instr) (s : State) : ∃ t, exec i s = .next (settle t) := by
  cases i <;> exact ⟨_, rfl⟩

/-! ### A request received and served -/

/-- A good frame of a known kind, below 80h, on a part that serves it: what its owning block does, and its reply. -/
theorem frameCompletes_serves {s : State} (h : Serves s) (serve : Request) {kind : Byte} (hk : kind.toNat < 0x80)
    (body : List Byte) :
    settle (frameCompletes serve kind body s) =
      replied kind body (serve body (received s)).2 (serve body (received s)).1 := by
  have ha : ¬ Config.areaFrames ≤ (received s).area.length := by
    have := h.2
    simp only [Config.areaFrames, received]
    omega
  have hr : (received s).resetArmed = false := h.1
  have hk' : ¬ 0x80 ≤ kind.toNat := by omega
  show settle (goodFrame serve kind body (received s)) = _
  simp [goodFrame, hr, ha, replied, replyKind, hk']

/-- A good frame while a RESET_DEVICE waits to act leaves no trace (R186). -/
theorem frameCompletes_armed {s : State} (h : s.resetArmed = true) (serve : Request) (kind : Byte) (body : List Byte) :
    frameCompletes serve kind body s = received s := by
  have hr : (received s).resetArmed = true := h
  show goodFrame serve kind body (received s) = _
  simp [goodFrame, hr]

/-- A good frame that finds the holding area full is counted and raises LINK (R181). -/
theorem frameCompletes_full {s : State} (h : s.resetArmed = false) (ha : 2 ≤ s.area.length) (serve : Request) (kind : Byte)
    (body : List Byte) :
    frameCompletes serve kind body s = raiseLink { received s with overruns := min (s.overruns + 1) 65535 } := by
  have hr : (received s).resetArmed = false := h
  have ha' : Config.areaFrames ≤ (received s).area.length := ha
  show goodFrame serve kind body (received s) = _
  simp only [goodFrame, hr, ha', if_true]
  rfl

end Sys2Proof.Machine
end

