-- ==== Sys2Proof/WellFormed.lean ====
section
/-! DEFINITION. Which commands can reach the part: a frame's body is at most 250 bytes (R178), an
UNKNOWN_KIND frame has a kind byte that names no request (R182), the characters of a BAD_FRAME are at
least one, a break has value 00h (R60), and an assertion of INH_N names each lane at most once. -/

namespace Sys2Proof

/-- A frame's body is 0 to 250 bytes (R178). -/
def bodyFits (body : List Byte) : Bool := decide (body.length ≤ 250)

/-- Whether a command is one that can reach the part. -/
def wellFormed : Instr → Bool
  | .unknownKind k f => bodyFits f.body && !(Machine.knownKinds.contains k)
  | .badFrame run => !run.chars.isEmpty
  | .scannerCharacterReceived _ _ c => decide (c.quality ≠ .brk) || decide (c.value = 0)
  | .inhNAsserted order => decide order.Nodup
  | i => match Machine.requestFrame i with
    | some (_, b) => bodyFits b
    | none => true

end Sys2Proof
end

