-- ==== Sys2Proof/Laws/PerInstr.lean ====
section
/-! SUPPORT. For every command that is a frame of the system line: the frame that carries it has the size and the check byte
of R178. One lemma per constructor of Instr. -/

namespace Sys2Proof.Machine

theorem byteSum_append_one (bs : List Byte) (b : Byte) : byteSum (bs ++ [b]) = byteSum bs + b := by
  simp [byteSum, List.foldl_append]

/-- The bytes after a frame's start byte sum to 0 (R178). -/
theorem frameBytes_sum (kind : Byte) (body : List Byte) : byteSum ((frameBytes kind body).drop 1) = 0 := by
  show byteSum ((byteOf (body.length + 1) :: kind :: body) ++ [_]) = 0
  rw [byteSum_append_one]
  exact BitVec.add_right_neg _

/-- A frame is its body and four bytes more (R178). -/
@[simp] theorem frameBytes_length (kind : Byte) (body : List Byte) : (frameBytes kind body).length = body.length + 4 := by
  simp [frameBytes]

end Sys2Proof.Machine

namespace Sys2Proof.Laws.FrameSize

/-- A frame that carries a well-formed command is 4 to 254 bytes, and its length, kind, body and check bytes sum to 0
modulo 256 (R178). -/
def Statement (i : Instr) : Prop :=
  wellFormed i = true →
    ∀ k b, Machine.requestFrame i = some (k, b) →
      4 ≤ (Machine.frameBytes k b).length ∧ (Machine.frameBytes k b).length ≤ 254 ∧
        Machine.byteSum ((Machine.frameBytes k b).drop 1) = 0

theorem of_fits {kind : Byte} {body : List Byte} (h : bodyFits body = true) :
    4 ≤ (Machine.frameBytes kind body).length ∧ (Machine.frameBytes kind body).length ≤ 254 ∧
      Machine.byteSum ((Machine.frameBytes kind body).drop 1) = 0 := by
  have h' : body.length ≤ 250 := of_decide_eq_true h
  exact ⟨by simp, by simp; omega, Machine.frameBytes_sum kind body⟩

theorem laneConfig (body : List Byte) : Statement (.laneConfig body) := by
  intro h k b hf
  cases hf
  exact of_fits h

theorem start (body : List Byte) : Statement (.start body) := by
  intro h k b hf
  cases hf
  exact of_fits h

theorem stop (body : List Byte) : Statement (.stop body) := by
  intro h k b hf
  cases hf
  exact of_fits h

theorem resetLane (body : List Byte) : Statement (.resetLane body) := by
  intro h k b hf
  cases hf
  exact of_fits h

theorem linesSet (body : List Byte) : Statement (.linesSet body) := by
  intro h k b hf
  cases hf
  exact of_fits h

theorem linesDir (body : List Byte) : Statement (.linesDir body) := by
  intro h k b hf
  cases hf
  exact of_fits h

theorem linesRead (frame : LineFrame) : Statement (.linesRead frame) := by
  intro h k b hf
  cases hf
  exact of_fits h

theorem keymapWrite (body : List Byte) : Statement (.keymapWrite body) := by
  intro h k b hf
  cases hf
  exact of_fits h

theorem keymapRead (body : List Byte) : Statement (.keymapRead body) := by
  intro h k b hf
  cases hf
  exact of_fits h

theorem portConfig (body : List Byte) : Statement (.portConfig body) := by
  intro h k b hf
  cases hf
  exact of_fits h

theorem scannerSend (body : List Byte) : Statement (.scannerSend body) := by
  intro h k b hf
  cases hf
  exact of_fits h

theorem filterConfig (body : List Byte) : Statement (.filterConfig body) := by
  intro h k b hf
  cases hf
  exact of_fits h

theorem symbologyWrite (body : List Byte) : Statement (.symbologyWrite body) := by
  intro h k b hf
  cases hf
  exact of_fits h

theorem forget (body : List Byte) : Statement (.forget body) := by
  intro h k b hf
  cases hf
  exact of_fits h

theorem fetch (body : List Byte) : Statement (.fetch body) := by
  intro h k b hf
  cases hf
  exact of_fits h

theorem purge (body : List Byte) : Statement (.purge body) := by
  intro h k b hf
  cases hf
  exact of_fits h

theorem drawerConfig (body : List Byte) : Statement (.drawerConfig body) := by
  intro h k b hf
  cases hf
  exact of_fits h

theorem kick (body : List Byte) : Statement (.kick body) := by
  intro h k b hf
  cases hf
  exact of_fits h

theorem status (body : List Byte) : Statement (.status body) := by
  intro h k b hf
  cases hf
  exact of_fits h

theorem ackFlags (body : List Byte) : Statement (.ackFlags body) := by
  intro h k b hf
  cases hf
  exact of_fits h

theorem attnMask (body : List Byte) : Statement (.attnMask body) := by
  intro h k b hf
  cases hf
  exact of_fits h

theorem clearFault (body : List Byte) : Statement (.clearFault body) := by
  intro h k b hf
  cases hf
  exact of_fits h

theorem latchCounters (body : List Byte) : Statement (.latchCounters body) := by
  intro h k b hf
  cases hf
  exact of_fits h

theorem readCounters (body : List Byte) : Statement (.readCounters body) := by
  intro h k b hf
  cases hf
  exact of_fits h

theorem clearCounters (body : List Byte) : Statement (.clearCounters body) := by
  intro h k b hf
  cases hf
  exact of_fits h

theorem identify (body : List Byte) : Statement (.identify body) := by
  intro h k b hf
  cases hf
  exact of_fits h

theorem getTime (body : List Byte) : Statement (.getTime body) := by
  intro h k b hf
  cases hf
  exact of_fits h

theorem setTime (body : List Byte) : Statement (.setTime body) := by
  intro h k b hf
  cases hf
  exact of_fits h

theorem resetDevice (body : List Byte) : Statement (.resetDevice body) := by
  intro h k b hf
  cases hf
  exact of_fits h

theorem unknownKind (kind : Byte) (frame : LineFrame) : Statement (.unknownKind kind frame) := by
  intro h k b hf
  cases hf
  exact of_fits (by simp [wellFormed] at h; exact h.1)

theorem badFrame (run : LineRun) : Statement (.badFrame run) := by
  intro _ k b hf
  cases hf

theorem gapLimitExpiry : Statement .gapLimitExpiry := by
  intro _ k b hf
  cases hf

theorem inboundOverrun (kind : Byte) (frame : LineFrame) : Statement (.inboundOverrun kind frame) := by
  intro h k b hf
  cases hf
  exact of_fits h

theorem frameDiscardedAtReset (kind : Byte) (frame : LineFrame) : Statement (.frameDiscardedAtReset kind frame) := by
  intro h k b hf
  cases hf
  exact of_fits h

theorem replySent : Statement .replySent := by
  intro _ k b hf
  cases hf

theorem resetDeviceActs (straps : BitVec 2) : Statement (.resetDeviceActs straps) := by
  intro _ k b hf
  cases hf

theorem powerOnReset (straps : BitVec 2) : Statement (.powerOnReset straps) := by
  intro _ k b hf
  cases hf

theorem samplePassEnd (lane : LaneId) (closed : BitVec 128) : Statement (.samplePassEnd lane closed) := by
  intro _ k b hf
  cases hf

theorem scannerCharacterReceived (lane : LaneId) (port : PortId) (char : ScanChar) : Statement (.scannerCharacterReceived lane port char) := by
  intro _ k b hf
  cases hf

theorem gapTimerExpiry (lane : LaneId) (port : PortId) : Statement (.gapTimerExpiry lane port) := by
  intro _ k b hf
  cases hf

theorem growthReport (lane : LaneId) : Statement (.growthReport lane) := by
  intro _ k b hf
  cases hf

theorem transmitByteSent (lane : LaneId) (port : PortId) : Statement (.transmitByteSent lane port) := by
  intro _ k b hf
  cases hf

theorem replyTimerExpiry (lane : LaneId) (port : PortId) : Statement (.replyTimerExpiry lane port) := by
  intro _ k b hf
  cases hf

theorem rawSensorChange (lane : LaneId) (high : Bool) : Statement (.rawSensorChange lane high) := by
  intro _ k b hf
  cases hf

theorem debouncedChange (lane : LaneId) : Statement (.debouncedChange lane) := by
  intro _ k b hf
  cases hf

theorem pulseTimerExpiry (lane : LaneId) : Statement (.pulseTimerExpiry lane) := by
  intro _ k b hf
  cases hf

theorem retryTimerExpiry (lane : LaneId) : Statement (.retryTimerExpiry lane) := by
  intro _ k b hf
  cases hf

theorem openTimerExpiry (lane : LaneId) : Statement (.openTimerExpiry lane) := by
  intro _ k b hf
  cases hf

theorem inhNAsserted (order : List LaneId) : Statement (.inhNAsserted order) := by
  intro _ k b hf
  cases hf

theorem inhNReleased : Statement .inhNReleased := by
  intro _ k b hf
  cases hf

theorem scannerStartBit (lane : LaneId) (port : PortId) : Statement (.scannerStartBit lane port) := by
  intro _ k b hf
  cases hf

theorem systemLineStartBit : Statement .systemLineStartBit := by
  intro _ k b hf
  cases hf

end Sys2Proof.Laws.FrameSize
end

