-- ==== Sys2Proof/Tests/Slice0.lean ====
section
/-! SUPPORT. Tests. The refusals of WellFormed, one step of each command with the figures of the spec's worked examples, and,
for each statement that has hypotheses, a state and operands that meet them (witness). -/

namespace Sys2Proof.Tests

-- The kernel's evaluations one after the other: side by side they need more threads than the memory limit allows.
set_option Elab.async false

open Sys2Proof Sys2Proof.Machine Sys2Proof.Claims

/-! ### Small states -/

/-- A running lane of 4 rows and 8 columns, with D = 3, U = 2 and rollover limit 2 (section 2.8). -/
def laneUp : Lane := { run := .running, cfg := { rows := 4, cols := 8, rollover := 2, releaseCount := 2 }, passTimer := some 4 }

/-- The part with lane 0 as given, and the other lanes as after reset. -/
def part (L : Lane) : State := State.reset.setLane 0 L

/-- The part at a moment. -/
def at_ (time : Nat) (s : State) : State := { s with clock := BitVec.ofNat 48 time, elapsed := time }

/-- An enabled port that hunts, with reply mark 7Eh, good-read tone 42h and bad-read tone 45h (section 4.9). -/
def portUp : Port :=
  { cfg := { enabled := true, replyMark := { present := true, value := 0x7E }, goodTone := { present := true, value := 0x42 }
             badTone := { present := true, value := 0x45 } }
    rx := .hunt, hold := false }

/-- Lane 0 running with port A as given. -/
def withPortA (P : Port) : State := part { laneUp with portA := P }

/-- A drawer in a state of section 8.9. -/
def drawerIn (st : DrawerState) : Drawer := { st := st }

/-- Lane 0 running with a drawer. -/
def withDrawer (D : Drawer) : State := part { laneUp with drawer := D }

/-- Whether a command answers a next state for which a question is answered yes. -/
def after (i : Instr) (s : State) (ask : State → Bool) : Bool :=
  match exec i s with
  | .next t => ask t
  | _ => false

/-- Nothing attached outside, and every contact open. -/
def quiet : Outside := Vector.replicate 4 { level := 0, attached := 0, contacts := 0 }

/-- A good frame's body, with nothing attached outside. -/
def bare (body : List Byte) : LineFrame := { body := body, outside := quiet }

/-- The body of the last reply formed, without its frame. -/
def replyBody (t : State) : List Byte := ((t.area.getLast?.map HeldFrame.reply).getD []).drop 3 |>.dropLast

/-- The record bodies of lane 0's queue. -/
def records (t : State) : List RecBody := (t.lane 0).queue.map Rec.body

/-- The code bytes of a text of ASCII characters. -/
def ascii (text : String) : List Byte := text.toList.map fun c => byteOf c.toNat

/-! ### WellFormed: each check refuses an ill-formed command -/

theorem test_wellFormed_long_body : wellFormed (.getTime (List.replicate 251 0)) = false := by decide +kernel
theorem test_wellFormed_longest_body : wellFormed (.getTime (List.replicate 250 0)) = true := by decide +kernel
theorem test_wellFormed_unknown_kind_known : wellFormed (.unknownKind 0x4E (bare [])) = false := by decide
theorem test_wellFormed_unknown_kind : wellFormed (.unknownKind 0x4F (bare [])) = true := by decide
theorem test_wellFormed_unknown_long : wellFormed (.unknownKind 0x4F (bare (List.replicate 251 0))) = false := by decide +kernel
theorem test_wellFormed_no_characters : wellFormed (.badFrame { chars := [], outside := quiet }) = false := by decide
theorem test_wellFormed_break_value : wellFormed (.scannerCharacterReceived 0 .A { value := 1, quality := .brk }) = false := by
  decide
theorem test_wellFormed_order_repeats : wellFormed (.inhNAsserted [1, 1]) = false := by decide

/-! ### The step and the frames -/

theorem test_no_word_spells_a_command : decodeTableWord 8 0x11 = none := by decide

/-- R18, R185: an idle millisecond. -/
theorem test_idle_ticks : (match step State.reset with | .next t => decide (t.clock = 1 ∧ t.elapsed = 1) | _ => false) = true := by
  decide +kernel

/-- R178: the worked frame 5Ah, 03h, 25h, 01h, FFh, D8h. -/
theorem test_frame_bytes : frameBytes 0x25 [0x01, 0xFF] = [0x5A, 0x03, 0x25, 0x01, 0xFF, 0xD8] := by decide

/-- Section 10.2.1: one corrupted byte costs two bad frames, and LINK is raised. -/
theorem test_badFrame_resync :
    after (.badFrame { chars := [0x5A, 0x03, 0x25, 0x5A, 0xFF, 0xD8].map fun b => { value := b, damaged := false }, outside := quiet })
      State.reset
      (fun t => decide (t.badFrames = 2 ∧ t.link = true ∧ t.rx = .hunt ∧ t.area = [])) = true := by decide +kernel

/-- R180: 20 ms of silence within a frame are allowed, and more are not. -/
theorem test_gapLimit_at_21 :
    after .gapLimitExpiry { State.reset with rx := .frame [3], lineGap := some 0, elapsed := 21 }
      (fun t => decide (t.badFrames = 1 ∧ t.rx = .hunt)) = true := by decide +kernel
theorem test_gapLimit_at_20 :
    after .gapLimitExpiry { State.reset with rx := .frame [3], lineGap := some 0, elapsed := 20 }
      (fun t => decide (t.badFrames = 0 ∧ t.rx = .frame [3])) = true := by decide +kernel
theorem test_systemLineStartBit :
    after .systemLineStartBit { State.reset with rx := .frame [3], lineGap := some 0 } (fun t => decide (t.lineGap = none)) =
      true := by decide +kernel

/-- Two frames held: the area is full. -/
def fullPart : State :=
  { State.reset with area := [{ kind := 0x02, body := [], reply := [] }, { kind := 0x48, body := [0], reply := [] }] }

/-- R181, section 10.5: a third frame is an overrun. -/
theorem test_inboundOverrun :
    after (.inboundOverrun 0x48 (bare [1])) fullPart (fun t => decide (t.overruns = 1 ∧ t.link = true ∧ t.area.length = 2)) = true := by
  decide +kernel
theorem test_replySent : after .replySent fullPart (fun t => decide (t.area.map HeldFrame.kind = [0x48])) = true := by decide +kernel

/-- R182, R183: an unknown kind at or above 80h is answered with reply kind FFh. -/
theorem test_unknownKind :
    after (.unknownKind 0x90 (bare [1, 2])) State.reset
      (fun t => decide (t.area.map HeldFrame.reply = [[0x5A, 0x02, 0xFF, 0x05, 0xFA]])) = true := by decide +kernel

/-- R184: IDENTIFY's reply. -/
theorem test_identify :
    after (.identify []) State.reset (fun t => decide (replyBody t = [0x00, 0x16, 0x04, 0x01, 0x04, 0x02, 0x00, 0x02])) = true := by
  decide +kernel
theorem test_getTime :
    after (.getTime []) (at_ 100000 State.reset) (fun t => decide (replyBody t = [0x00, 0xA0, 0x86, 0x01, 0, 0, 0])) = true := by
  decide +kernel
theorem test_setTime :
    after (.setTime [0xA0, 0x86, 0x01, 0, 0, 0]) State.reset (fun t => decide (t.clock = 100000 ∧ t.elapsed = 0)) = true := by
  decide +kernel
/-- R185: a stored record refuses SET_TIME. -/
theorem test_setTime_not_empty :
    after (.setTime [1, 0, 0, 0, 0, 0]) (part { queue := [{ body := .laneStart, stamp := 0 }] })
      (fun t => decide (t.clock = 0 ∧ replyBody t = [0x0B])) = true := by decide +kernel
theorem test_resetDevice :
    after (.resetDevice []) State.reset (fun t => decide (t.resetArmed = true ∧ replyBody t = [0x00])) = true := by decide +kernel
/-- R186: the reset waits for its reply to leave, and frames between draw nothing. -/
theorem test_resetDeviceActs_waits :
    after (.resetDeviceActs 2) { fullPart with resetArmed := true } (fun t => decide (t.resetArmed = true ∧ t.rate = 0)) = true := by
  decide +kernel
theorem test_resetDeviceActs :
    after (.resetDeviceActs 2) { State.reset with resetArmed := true, badFrames := 7 }
      (fun t => decide (t.resetArmed = false ∧ t.rate = 2 ∧ t.badFrames = 0)) = true := by decide +kernel
theorem test_frameDiscardedAtReset :
    after (.frameDiscardedAtReset 0x02 (bare [])) { State.reset with resetArmed := true }
      (fun t => decide (t.area = [] ∧ t.overruns = 0)) = true := by decide +kernel
theorem test_powerOnReset :
    after (.powerOnReset 1) fullPart (fun t => decide (t.area = [] ∧ t.rate = 1 ∧ (t.lane 3).portA.hold = true)) = true := by
  decide +kernel

/-! ### The Lane Controller and the Event Store -/

/-- R8: the two worked clamps. -/
theorem test_clampLane_rows_reserve_cap :
    let c := clampLane { rows := 12, reserve := 300, cap := 200 }
    c.rows = 8 ∧ c.reserve = 200 ∧ c.cap = 200 := by decide
theorem test_clampLane_low_cap :
    let c := clampLane { reserve := 40, cap := 10 }
    c.reserve = 16 ∧ c.cap = 16 := by decide

/-- A lane with n one-slot records. -/
def filled (run : LaneState) (reserve cap n : Nat) : Lane :=
  { run := run, cfg := { reserve := reserve, cap := cap }, queue := List.replicate n { body := .laneStart, stamp := 0 } }

/-- The four lanes of sections 1.12.1 and 7.3.1. -/
def worked : State :=
  { State.reset with lanes := #v[filled .running 96 256 200, filled .running 96 256 40, filled .running 96 256 120,
                                 filled .ready 32 128 10] }

/-- Section 7.3.1: F, the total free count and the four headrooms. -/
theorem test_headrooms :
    freeShared worked = 64 ∧ totalFree worked = 142 ∧ headroom worked 0 = 56 ∧ headroom worked 1 = 120 ∧
      headroom worked 2 = 64 ∧ headroom worked 3 = 86 := by decide +kernel

/-- Section 7.3.1: the headrooms after a two-slot scan is admitted in lane 2. -/
theorem test_headrooms_after_admission :
    let t := offer 2 (.scan .A 2 (ascii "A5012345678900")) {} worked
    freeShared t = 62 ∧ headroom t 0 = 56 ∧ headroom t 1 = 118 ∧ headroom t 2 = 62 ∧ headroom t 3 = 84 := by decide +kernel

/-- Section 1.12.1: LANE_CONFIG of lane 3 with reserve 220 is refused NO_ROOM. -/
theorem test_laneConfig_no_room :
    after (.laneConfig [3, 0, 16, 4, 3, 3, 4, 0, 50, 10, 220, 0, 128, 0, 8, 8, 0x3F, 0x3F, 0]) worked
      (fun t => decide (replyBody t = [0x0C] ∧ (t.lane 3).cfg.reserve = 32)) = true := by decide +kernel
theorem test_laneConfig_clamped :
    after (.laneConfig [0, 12, 16, 4, 3, 3, 4, 0, 50, 10, 0x2C, 1, 200, 0, 8, 8, 0x3F, 0x3F, 0]) State.reset
      (fun t => decide (replyBody t = [0x01] ∧ (t.lane 0).cfg.rows = 8 ∧ (t.lane 0).cfg.reserve = 200)) = true := by decide +kernel

/-- R2: START offers LANE_START and times the first pass. -/
theorem test_start :
    after (.start [0]) (at_ 10000 (part { cfg := { rows := 4, cols := 8 } }))
      (fun t => decide ((t.lane 0).run = .running ∧ (t.lane 0).passTimer = some 10004 ∧ records t = [.laneStart])) = true := by
  decide +kernel
theorem test_start_running : after (.start [0]) (part laneUp) (fun t => decide (replyBody t = [0x06])) = true := by decide +kernel
/-- R3: a kick is reported aborted with cause STOP, after the loss of the emptied slot. -/
theorem test_stop_aborts :
    after (.stop [0])
      (part { laneUp with drawer := { st := .kickWait, tries := 2 }
                          portA := { slot := some { code := [1], damaged := false, time := 0 } } })
      (fun t => decide (records t = [.drawerAbort .stop 2] ∧ (t.lane 0).queue.map Rec.lostBefore = [1] ∧
        (t.lane 0).portA.slot = none)) = true := by decide +kernel
theorem test_resetLane :
    after (.resetLane [0]) (part { laneUp with lost := 3, counters := Vector.replicate 12 9, queue := [{ body := .laneStart, stamp := 0 }] })
      (fun t => decide ((t.lane 0).run = .ready ∧ (t.lane 0).lost = 0 ∧ records t = [] ∧ (t.lane 0).counters[0] = 0)) = true := by
  decide +kernel

/-- Section 1.13.1: the lamp on line 24, READY. -/
theorem test_linesDir_lamp :
    after (.linesDir [0, 0, 0, 0, 1, 0, 0, 0, 1, 1]) State.reset
      (fun t => decide (linePin (t.lane 0) 24 = .low ∧ linePin (t.lane 0) 3 = .pulledUp)) = true := by decide +kernel
theorem test_linesSet_lamp :
    after (.linesSet [0, 0, 0, 0, 1, 0, 0, 0, 1]) (part { lineDir := BitVec.ofNat 26 (2 ^ 24) })
      (fun t => decide (linePin (t.lane 0) 24 = .high)) = true := by decide +kernel
/-- Section 1.13.1: rows 6 and columns 12 own lines 0 to 5 and 8 to 19. Lines 6 and 7 are held low from outside. -/
theorem test_linesRead_lamp :
    after (.linesRead { body := [0], outside := quiet.set 0 { level := 0, attached := BitVec.ofNat 26 0xC0, contacts := 0 } })
      (part { run := .running, cfg := { rows := 6, cols := 12 }, pullUp := true
              lineDir := BitVec.ofNat 26 (2 ^ 24), lineLatch := BitVec.ofNat 26 (2 ^ 24) })
      (fun t => decide ((replyBody t).drop 15 = [0x3F, 0xFF, 0x0F, 0x00] ∧ ((replyBody t).drop 2).take 4 = [0x3F, 0xFF, 0xFF, 0x03]))
      = true := by decide +kernel

/-- The part after a number of idle steps. -/
def idled : Nat → State → State
  | 0, s => s
  | n + 1, s => idled n (idle s)

/-- The lines of lane 0 all high from outside, and position 17 closed. -/
def keyShut : Outside := quiet.set 0 { level := BitVec.ofNat 26 (2 ^ 26 - 1), attached := 0, contacts := BitVec.ofNat 128 (2 ^ 17) }

/-- R12, R16, R37: the second idle step of a due pass gives row 1 its turn, and a key of column 1 that is closed then reads low,
though the pass before read it open; so too where the LINES_READ is found among the characters of a BAD_FRAME. -/
theorem test_linesRead_row_in_turn :
    ([Instr.linesRead { body := [0], outside := keyShut }, .badFrame { chars := frameChars 0x16 [0], outside := keyShut }].all fun i =>
      after i (idled 2 { part laneUp with elapsed := 4 }) fun t =>
        decide (((replyBody t).drop 2).take 4 = [0xFD, 0xFD, 0xFF, 0x03] ∧ (t.lane 0).rowTurn = some 1)) = true := by
  decide +kernel

/-- Section 11.3.1: the bytes and slots of a SCAN record. -/
theorem test_scan_record_bytes :
    recordBytes { body := .scan .A 2 (ascii "C7351358"), stamp := 100000 } =
        [0x05, 0, 0, 0xA0, 0x86, 0x01, 0, 0, 0, 0x02, 0x08, 0x43, 0x37, 0x33, 0x35, 0x31, 0x33, 0x35, 0x38] ∧
      recordSlots (.scan .A 2 (ascii "C7351358")) = 2 := by decide +kernel

/-- A lane with that record and a LANE_START stored. -/
def twoStored : State :=
  part { queue := [{ body := .laneStart, stamp := 5 }, { body := .scan .A 2 (ascii "C7351358"), stamp := 100000 }] }

theorem test_fetch_one :
    after (.fetch [0, 1]) twoStored
      (fun t => decide (replyBody t = [0, 0, 1, 1, 0, 0x0E, 0, 0, 5, 0, 0, 0, 0, 0] ∧ (t.lane 0).queue.length = 1)) = true := by
  decide +kernel
theorem test_fetch_zero_clamped :
    after (.fetch [0, 0]) twoStored (fun t => decide ((replyBody t).take 5 = [1, 0, 1, 1, 0])) = true := by decide +kernel
theorem test_purge :
    after (.purge [0]) twoStored (fun t => decide (replyBody t = [0, 2, 0] ∧ records t = [])) = true := by decide +kernel

/-! ### The keys -/

/-- Lane 0 with three positions of section 2.8 as they stand before a pass. -/
def keysAt (k3 k18 k37 : KeyState) (held : List HeldKey) : State :=
  at_ 10028 (part { laneUp with
    keys := ((Vector.replicate 128 KeyState.up).set 3 k3 |>.set 18 k18 |>.set 37 k37), held := held, passTimer := some 10028 })

/-- A NORMAL key held since a mark. -/
def heldNormal (p mark : Nat) : HeldKey :=
  { pos := p, cls := .normal, code := BitVec.ofNat 16 p, layer := false, repeats := false, mark := mark }

/-- The raw closed set of a list of positions. -/
def closedSet (ps : List Nat) : BitVec 128 := BitVec.ofNat 128 (ps.map fun p => 2 ^ p).sum

/-- Section 2.8, pass 10 028: the release of 3 makes room for the held press of 37, in the same walk. -/
theorem test_pass_release_then_held_press :
    after (.samplePassEnd 0 (closedSet [18, 37]))
      (keysAt (.releasePending 1) .down (.pressPending 3 true) [heldNormal 3 10012, heldNormal 18 10016])
      (fun t => decide (keyAt (t.lane 0) 3 = .up ∧ keyAt (t.lane 0) 18 = .down ∧ keyAt (t.lane 0) 37 = .down ∧
        records t = [.keyUp 3 3 16, .keyDown 37 37 .normal])) = true := by decide +kernel

/-- Section 2.8, pass 10 020: the third press is held at the limit, and counted once. -/
theorem test_pass_rollover_blocks :
    after (.samplePassEnd 0 (closedSet [3, 18, 37]))
      (keysAt .down .down (.pressPending 2 false) [heldNormal 3 10012, heldNormal 18 10016])
      (fun t => decide (keyAt (t.lane 0) 37 = .pressPending 3 true ∧ (t.lane 0).counters[2] = 1 ∧ records t = [])) = true := by
  decide +kernel

/-- Section 2.3.1: positions 0, 1, 16 and 17 closed make a ghost rectangle of lowest corner 0. -/
theorem test_ghost_of_a_hand :
    lowestGhost { rows := 4, cols := 8 } (closedSet [0, 1, 16, 17]) = some 0 ∧
      effectiveClosed { rows := 4, cols := 8 } (closedSet [0, 1, 16, 17]) 16 .up = false ∧
      effectiveClosed { rows := 4, cols := 8 } (closedSet [0, 1, 16, 17]) 0 .down = true ∧
      lowestGhost { rows := 4, cols := 8 } (closedSet [1, 16]) = none := by decide +kernel

/-- Lane 0 with the keymap of section 3.7 at the positions of interest. -/
def shiftLane : Lane :=
  { laneUp with
    keymap := (defaultKeymap.set 3 { cls := .shift, base := 0x0100, shifted := 0x0100, repeats := false }
      |>.set 20 { cls := .normal, base := 0x0031, shifted := 0x0021, repeats := true }
      |>.set 113 { cls := .lockContact, base := 1, shifted := 0, repeats := false })
    held := [{ pos := 3, cls := .shift, code := 0x0100, layer := false, repeats := false, mark := 21000 }] }

/-- Section 3.7, 21 050: the shifted press of 20, with its repeat due at 21 550. -/
theorem test_press_takes_shifted_layer :
    let t := press 0 20 (at_ 21050 (part shiftLane))
    records t = [.keyDown 20 0x0021 .normal] ∧ (t.lane 0).queue.map (fun r => r.flags.layer) = [true] ∧
      (t.lane 0).repeating = some { pos := 20, number := 0, due := 21550 } := by decide +kernel

/-- Section 3.7, 20 000: the lock position turns from 0 to 1. -/
theorem test_lock_turns :
    let t := lockNotice 0 (at_ 20000 (part { shiftLane with
      lock := .inTransit, lastLock := some 0
      held := [{ pos := 113, cls := .lockContact, code := 1, layer := false, repeats := false, mark := 20000 }] }))
    records t = [.lock 1 (some 0)] ∧ (t.lane 0).lock = .index 1 ∧ (t.lane 0).sticky = flagLock := by decide +kernel

/-- Section 3.7, 21 650: a repeat withheld in store-high still takes its number and due mark. -/
theorem test_repeat_withheld :
    let t := notice 0 (at_ 21650 (part { laneUp with
      storeHigh := true, repeating := some { pos := 20, number := 1, due := 21650 }, held := [heldNormal 20 21050] }))
    records t = [] ∧ (t.lane 0).counters[1] = 1 ∧ (t.lane 0).repeating = some { pos := 20, number := 2, due := 21750 } := by
  decide +kernel

/-- R40: one entry written at position 20. -/
theorem test_keymapWrite :
    after (.keymapWrite [0, 20, 1, 2, 0x00, 0x01, 0x00, 0x01, 0]) State.reset
      (fun t => decide (keymapAt (t.lane 0) 20 = { cls := .shift, base := 0x100, shifted := 0x100, repeats := false } ∧
        (keymapAt (t.lane 0) 21).base = 21)) = true := by decide +kernel
theorem test_keymapRead :
    after (.keymapRead [0, 20, 1]) State.reset (fun t => decide (replyBody t = [0, 1, 1, 20, 0, 148, 0, 1])) = true := by
  decide +kernel

/-! ### The scanner ports -/

theorem test_portConfig :
    after (.portConfig [0, 1, 1, 3, 8, 0, 2, 0, 0x0D, 0x7E, 3, 0, 0, 20, 0]) State.reset
      (fun t => decide (replyBody t = [1] ∧ (t.lane 0).portB.cfg.gapTimeout = 5 ∧ (t.lane 0).portB.cfg.replyTimeout = 20)) = true := by
  decide +kernel

/-- Section 5.7: three bytes sent, the first in transmission, the last marked. -/
theorem test_scannerSend :
    after (.scannerSend [0, 0, 1, 3, 0x16, 0x52, 0x0D]) (withPortA portUp)
      (fun t => decide ((t.lane 0).portA.txq = [{ value := 0x52 }, { value := 0x0D, last := true }] ∧
        (t.lane 0).portA.expect = .awaitingSend ∧ ((t.lane 0).portA.tx.map TxNow.value) = some 0x16)) = true := by decide +kernel

/-- A port that has collected code bytes. -/
def collected (P : Port) (code : List Byte) : Port := { P with rx := .assembly, buf := code, gap := some 60000 }

/-- The terminator, received good. -/
def terminator : ScanChar := { value := 0x0D, quality := .good }

/-- Section 4.9: a second read while the first waits is an overrun of detail 14 and a loss. -/
theorem test_char_overrun :
    after (.scannerCharacterReceived 0 .A terminator)
      (at_ 50040 (withPortA { collected portUp (ascii "A4006381333931") with
        slot := some { code := ascii "A5012345678900", damaged := false, time := 50015 } }))
      (fun t => decide ((t.lane 0).fault.kind = .recordOverrun ∧ (t.lane 0).fault.detail = 14 ∧ (t.lane 0).fault.time = 50040 ∧
        (t.lane 0).lost = 1)) = true := by decide +kernel

/-- Section 4.9: a framing error of value 33h. -/
theorem test_char_framing :
    after (.scannerCharacterReceived 0 .A { value := 0x33, quality := .framing }) (withPortA (collected portUp (ascii "A7")))
      (fun t => decide ((t.lane 0).portA.buf = ascii "A73" ∧ (t.lane 0).portA.damaged = true ∧
        (t.lane 0).fault.kind = .lineFraming ∧ (t.lane 0).fault.detail = 0x33)) = true := by decide +kernel

/-- Section 4.9: a fragment of 3 bytes when the gap timer runs out at 50 253. -/
theorem test_gapTimer_fragment :
    after (.gapTimerExpiry 0 .A) (at_ 50253 (withPortA { collected portUp (ascii "A50") with gap := some 50253 }))
      (fun t => decide ((t.lane 0).fault.kind = .recordFragment ∧ (t.lane 0).fault.detail = 3 ∧ (t.lane 0).portA.rx = .hunt)) =
      true := by decide +kernel
theorem test_scannerStartBit :
    after (.scannerStartBit 0 .A) (withPortA (collected portUp (ascii "A")))
      (fun t => decide ((t.lane 0).portA.gap = none ∧ (t.lane 0).portA.rx = .assembly)) = true := by decide +kernel

/-- Section 5.7: the answer of 8 bytes is cut to 6, and marked truncated. -/
theorem test_reply_truncated :
    after (.scannerCharacterReceived 0 .A terminator)
      (withPortA { collected portUp (0x7E :: ascii "REV 2.41") with expect := .timing, replyTimer := some 70203 })
      (fun t => decide (records t = [.scannerReply .A (ascii "REV 2.")] ∧ (t.lane 0).queue.map (fun r => r.flags.truncated) = [true] ∧
        (t.lane 0).portA.expect = .idle ∧ (t.lane 0).portA.replyTimer = none)) = true := by decide +kernel

/-- A byte in transmission that is the last of an expecting command. -/
def lastByte : TxNow := { value := 0x0D, last := true, rate := 3, sevenBits := false, parity := .none }

/-- Section 5.7: the notice of the last byte starts the reply timer of 200 ms. -/
theorem test_transmitByteSent_notice :
    after (.transmitByteSent 0 .A)
      (at_ 70003 (withPortA { portUp with cfg := { portUp.cfg with replyTimeout := 20 }, expect := .awaitingSend, tx := some lastByte }))
      (fun t => decide ((t.lane 0).portA.expect = .timing ∧ (t.lane 0).portA.replyTimer = some 70203)) = true := by decide +kernel

/-- Section 5.7: the timer's expiry, with detail 200. -/
theorem test_replyTimerExpiry :
    after (.replyTimerExpiry 0 .A)
      (at_ 71202 (withPortA { portUp with cfg := { portUp.cfg with replyTimeout := 20 }, expect := .timing, replyTimer := some 71202 }))
      (fun t => decide (records t = [.scannerTimeout .A] ∧ (t.lane 0).fault.kind = .replyTimeout ∧ (t.lane 0).fault.detail = 200 ∧
        (t.lane 0).portA.expect = .timedOut)) = true := by decide +kernel

/-! ### Code screening -/

/-- Section 6.4.1, cases 1 to 3. -/
theorem test_check_digits :
    checkPasses 3 1 (ascii "7351358") = true ∧ checkPasses 3 1 (ascii "7351353") = false ∧
      checkPasses 3 1 (ascii "5012345678900") = true ∧ checkPasses 3 1 (ascii "1230") = false ∧
      checkPasses 1 3 (ascii "1230") = true := by decide +kernel

/-- Section 6.4.1, case 4. -/
theorem test_judge_lengths :
    let e : SymEntry := { present := true, mark := 0x43, minLen := 2, maxLen := 20, rule := .mod10w31 }
    judgeMatched e (ascii "C5") = some .length ∧ judgeMatched { e with minLen := 1 } (ascii "C5") = some .length ∧
      judgeMatched e (ascii "C12A4") = some .notNumeric := by decide +kernel

/-- Code X of section 6.7.1. -/
def codeX : List Byte := ascii "A4006381333931"

/-- Lane 0 with a table that holds X, read at port A at a time, and the filter of section 6.7.1. -/
def seenX (time : Nat) (L : Lane) : State :=
  { part { L with recent := [{ code := codeX, port := .A, time := BitVec.ofNat 48 time }] } with
    strict := true
    symbology := State.reset.symbology.set 0 { present := true, mark := 0x41, minLen := 8, maxLen := 13, rule := .mod10w31 } }

/-- Section 6.7.1, 100 180 and 100 700: suppressed, and the entry keeps port A. -/
theorem test_duplicate_same_port :
    after (.scannerCharacterReceived 0 .A terminator)
      (at_ 100180 (seenX 100000 { laneUp with portA := collected portUp codeX }))
      (fun t => decide (records t = [] ∧ (t.lane 0).counters[5] = 1 ∧
        (t.lane 0).recent = [{ code := codeX, port := .A, time := 100180 }])) = true := by decide +kernel
theorem test_duplicate_cross_port :
    after (.scannerCharacterReceived 0 .B terminator)
      (at_ 100700 (seenX 100180 { laneUp with portB := collected portUp codeX }))
      (fun t => decide (records t = [] ∧ (t.lane 0).counters[6] = 1 ∧
        (t.lane 0).recent = [{ code := codeX, port := .A, time := 100700 }])) = true := by decide +kernel
/-- Section 6.7.1, 101 600: an elapsed time of 500 is not within a window of 500. -/
theorem test_duplicate_at_window :
    after (.scannerCharacterReceived 0 .A terminator)
      (at_ 101600 (seenX 101100 { laneUp with portA := collected portUp codeX }))
      (fun t => decide (records t = [.scan .A 0 codeX] ∧ (t.lane 0).counters[4] = 1 ∧
        (t.lane 0).portA.tx.map TxNow.value = some 0x42)) = true := by decide +kernel

/-- Section 6.7.2: growth admits slot B's record, and then slot A's damaged one, both delayed. -/
theorem test_growth_chain :
    after (.growthReport 0)
      (at_ 200300 (seenX 0 { laneUp with
        growth := true
        portA := { portUp with slot := some { code := ascii "A1", damaged := true, time := 200030 } }
        portB := { portUp with slot := some { code := ascii "A5012345678900", damaged := false, time := 200010 } } }))
      (fun t => decide (records t = [.scan .B 0 (ascii "A5012345678900"), .scanReject .A 15 .lineError 2] ∧
        (t.lane 0).queue.map (fun r => r.flags.delayed) = [true, true] ∧ (t.lane 0).queue.map Rec.stamp = [200010, 200030])) =
      true := by decide +kernel

theorem test_filterConfig :
    after (.filterConfig [1, 0x89, 0x13, 0, 0]) State.reset
      (fun t => decide (replyBody t = [1] ∧ t.strict = true ∧ t.sameWindow = 5000 ∧ t.crossWindow = 0)) = true := by decide +kernel
theorem test_symbologyWrite :
    after (.symbologyWrite [0, 1, 1, 0x41, 30, 13, 1]) State.reset
      (fun t => decide (replyBody t = [1] ∧
        t.symbology[0] = { present := true, mark := 0x41, minLen := 13, maxLen := 13, rule := .mod10w31 })) = true := by
  decide +kernel
theorem test_forget : after (.forget [0]) (seenX 5 laneUp) (fun t => decide ((t.lane 0).recent = [])) = true := by decide +kernel

/-! ### The drawer (section 8.9) -/

theorem test_kick :
    after (.kick [0]) (at_ 400000 (withDrawer (drawerIn .shut)))
      (fun t => decide (replyBody t = [0] ∧ (t.lane 0).drawer.kick = true ∧ (t.lane 0).drawer.pulse = some 400080 ∧
        (t.lane 0).drawer.retry = some 400600)) = true := by decide +kernel
theorem test_kick_inhibited :
    after (.kick [0]) { withDrawer (drawerIn .shut) with inhibit := true } (fun t => decide (replyBody t = [9])) = true := by
  decide +kernel
theorem test_pulseTimerExpiry :
    after (.pulseTimerExpiry 0)
      (at_ 400080 (withDrawer { drawerIn .kickPulse with tries := 1, kick := true, pulse := some 400080, retry := some 400600 }))
      (fun t => decide ((t.lane 0).drawer.st = .kickWait ∧ (t.lane 0).drawer.kick = false ∧ (t.lane 0).drawer.retry = some 400600)) =
      true := by decide +kernel
theorem test_retry_pulses_again :
    after (.retryTimerExpiry 0) (at_ 400600 (withDrawer { drawerIn .kickWait with tries := 1, retry := some 400600 }))
      (fun t => decide ((t.lane 0).drawer.st = .kickPulse ∧ (t.lane 0).drawer.tries = 2 ∧ (t.lane 0).drawer.retry = some 401200)) =
      true := by decide +kernel
theorem test_retry_fails :
    after (.retryTimerExpiry 0) (at_ 401200 (withDrawer { drawerIn .kickWait with tries := 2, retry := some 401200 }))
      (fun t => decide ((t.lane 0).drawer.st = .shut ∧ records t = [.drawerFail 2] ∧ (t.lane 0).fault.kind = .kickNoOpen ∧
        (t.lane 0).fault.detail = 2 ∧ (t.lane 0).counters[11] = 1 ∧ (t.lane 0).sticky = flagDrawer)) = true := by decide +kernel
theorem test_rawSensorChange :
    after (.rawSensorChange 0 true) (at_ 401190 (withDrawer (drawerIn .kickWait)))
      (fun t => decide ((t.lane 0).drawer.measure = some 401190)) = true := by decide +kernel
theorem test_debounced_uncommanded :
    after (.debouncedChange 0) (at_ 401210 (withDrawer { drawerIn .shut with dsense := true, measure := some 401190 }))
      (fun t => decide (records t = [.drawerOpen .uncommanded 0] ∧ (t.lane 0).drawer.openMark = 401210 ∧
        (t.lane 0).drawer.openTimer = .running 0 401210 ∧ (t.lane 0).counters[10] = 1)) = true := by decide +kernel
theorem test_debounced_closing :
    after (.debouncedChange 0) (at_ 430020 (withDrawer { drawerIn .opened with openMark := 401210, measure := some 430000 }))
      (fun t => decide (records t = [.drawerClosed 28810] ∧ (t.lane 0).drawer.st = .shut)) = true := by decide +kernel
theorem test_inhibit_aborts :
    after (.inhNAsserted []) (at_ 450030 (withDrawer { drawerIn .kickPulse with tries := 1, kick := true, pulse := some 450080 }))
      (fun t => decide (records t = [.drawerAbort .inhibit 1] ∧ (t.lane 0).drawer.st = .shut ∧ (t.lane 0).drawer.kick = false ∧
        deviceFlags t = flagInhibit)) = true := by decide +kernel
theorem test_inhibit_released :
    after .inhNReleased { State.reset with inhibit := true } (fun t => decide (deviceFlags t = 0)) = true := by decide +kernel
/-- Section 9.7: an alarm time of 5 s is reached, and DRAWER leaves the reported set. -/
theorem test_openTimerExpiry :
    after (.openTimerExpiry 0)
      (at_ 505000 (part { laneUp with
        drawer := { drawerIn .opened with openTimer := .running 0 500000, active := { alarm := 5 } }
        sticky := flagDrawer, reported := flagDrawer }))
      (fun t => decide (records t = [.drawerOverdue 5] ∧ (t.lane 0).drawer.st = .overdue ∧ (t.lane 0).reported = 0)) = true := by
  decide +kernel
/-- R142: a period of 100 with a width of 150 becomes 170. -/
theorem test_drawerConfig :
    after (.drawerConfig [0, 150, 100, 0, 2, 60, 0, 0, 20, 1]) State.reset
      (fun t => decide (replyBody t = [1] ∧ (t.lane 0).drawer.active.retryPeriod = 170 ∧ (t.lane 0).drawer.localKick = true)) = true := by
  decide +kernel

/-! ### Attention (section 9.7) -/

/-- Lane 0 with the DRAWER flag set, LOSS and FAULT enabled with it, and a reported set. -/
def flagged (reported : Byte) : State :=
  part { laneUp with sticky := flagDrawer, reported := reported, enable := 0x4C }

theorem test_status_reports :
    after (.status [0]) (flagged 0) (fun t => decide ((t.lane 0).reported = flagDrawer ∧ (replyBody t)[14]? = some 0x08 ∧
      (replyBody t).length = 27 ∧ t.attn = true)) = true := by decide +kernel
theorem test_status_device :
    after (.status [0xFF]) worked (fun t => decide (replyBody t = [0, 0xFF, 0, 0, 0, 0, 0, 0, 0, 64, 0, 142, 0, 0, 0, 0, 0])) = true := by
  decide +kernel
theorem test_ack_unreported :
    after (.ackFlags [0, 0x08]) (flagged 0) (fun t => decide ((t.lane 0).sticky = flagDrawer ∧ t.attn = true)) = true := by
  decide +kernel
theorem test_ack_reported :
    after (.ackFlags [0, 0x08]) (flagged 0x08)
      (fun t => decide ((t.lane 0).sticky = 0 ∧ t.attn = false ∧ replyBody t = [0, 0, 0])) = true := by decide +kernel
theorem test_attnMask :
    after (.attnMask [0, 0x04]) (flagged 0) (fun t => decide ((t.lane 0).enable = 4 ∧ t.attn = false)) = true := by decide +kernel
theorem test_clearFault :
    after (.clearFault [0])
      (part { fault := { locked := true, kind := .recordOverrun, source := .port .A, time := 50040, detail := 14, further := 2 } })
      (fun t => decide (replyBody t = [0, 0, 1, 5, 2, 0x78, 0xC3, 0, 0, 0, 0, 14, 0, 2] ∧ (t.lane 0).fault = {})) = true := by
  decide +kernel
theorem test_latchCounters :
    after (.latchCounters [0x05]) (part { laneUp with counters := Vector.replicate 12 7, counterLatch := some { time := 1, values := Vector.replicate 12 3 } })
      (fun t => decide (replyBody t = [0, 4] ∧ (t.lane 0).counterLatch.map LatchImage.time = some 1)) = true := by decide +kernel
theorem test_readCounters :
    after (.readCounters [0]) (part { laneUp with counterLatch := some { time := 1, values := Vector.replicate 12 3 } })
      (fun t => decide ((replyBody t).take 13 = [0, 0, 1, 1, 0, 0, 0, 0, 0, 3, 0, 0, 0] ∧ (t.lane 0).counterLatch = none)) = true := by
  decide +kernel
theorem test_clearCounters :
    after (.clearCounters [0]) (part { counters := Vector.replicate 12 7 })
      (fun t => decide ((t.lane 0).counters = Vector.replicate 12 0)) = true := by decide +kernel

/-! ### Witnesses: for each statement with hypotheses, values that meet them -/

/-- The conditions of a served frame, as a test reads them. -/
def serves (s : State) : Bool := !s.resetArmed && decide (s.area.length < 2)

theorem serves_iff (s : State) : serves s = true ↔ Serves s := by simp [serves, Serves]

/-- A command that answers a next state. -/
theorem exec_answers (i : Instr) (s : State) : ∃ t, exec i s = .next t := (exec_settles i s).elim fun t h => ⟨settle t, h⟩

/-- A request that is served and answered with a result. -/
def answered (i : Instr) (s : State) (result : Byte) : Bool :=
  (requestFrame i).isSome && serves s && after i s fun t => decide ((replyBody t).head? = some result)

/-- StepRunsFrontCommand. -/
theorem witness_step : ({ State.reset with pending := [.replySent, .gapLimitExpiry] } : State).pending = .replySent :: [.gapLimitExpiry] :=
  rfl
/-- IdleStepTicksOrQueuesDue: nothing due, an event due, and a due pass with no row driven, with one left, and with none. -/
theorem witness_idle :
    (let s := fun r => at_ 4 (part { laneUp with rowTurn := r })
     (s none).pending = [] ∧ rowLeft (s none) 0 = true ∧ rowLeft (s (some 2)) 0 = true ∧ ∀ l, rowLeft (s (some 3)) l = false) ∧
    (∀ l, rowLeft State.reset l = false) ∧
    State.reset.pending = [] ∧ dueEvents State.reset = [] ∧ (part { laneUp with growth := true }).pending = [] ∧
      dueEvents (part { laneUp with growth := true }) = [.growthReport 0] := by decide +kernel
/-- CommandsLeaveTheQueue. -/
theorem witness_queue : ∃ t, exec .replySent { fullPart with pending := [.replySent] } = .next t := exec_answers _ _
/-- ResetsRestoreTheResetState. -/
theorem witness_resets : ({ State.reset with resetArmed := true } : State).resetArmed = true ∧
    ({ State.reset with resetArmed := true } : State).area = [] := ⟨rfl, rfl⟩
/-- RefusedRequestsChangeNothing: a request answered OK, one CLAMPED and one refused. -/
theorem witness_refused :
    answered (.start [0]) State.reset 0x00 = true ∧ answered (.fetch [0, 0]) State.reset 0x01 = true ∧
      answered (.kick [0]) State.reset 0x06 = true := by decide +kernel
/-- LaneAndLengthJudgedFirst: lane 4, an empty body, and one byte too many or too few. -/
theorem witness_lane_length :
    serves State.reset = true ∧ 4 ≤ (0x04 : Byte).toNat ∧ ([] : List Byte).length + 1 ≠ 2 ∧ ([1] : List Byte).length + 1 ≠ 1 := by
  decide +kernel
/-- FramesDecodeAsTheyAreFormed, at the longest body. -/
theorem witness_frames : (List.replicate 250 (0x5A : Byte)).length ≤ 250 ∧ State.reset.rx = .hunt ∧ State.reset.lineGap = none ∧
    State.reset.lineDrop = false := by decide +kernel
/-- FramesDecodeAsTheyAreFormed: a request of each kind, the one that carries the outside, and a frame that is named by no request. -/
theorem witness_request_kinds :
    (requestsOf (bare [0])).length = 29 ∧ requestFrame (.start [0]) = some (0x11, [0]) ∧ givenOutside (.start [0]) = none ∧
      requestFrame (.linesRead (bare [0])) = some (0x16, [0]) ∧ givenOutside (.linesRead (bare [0])) = some quiet ∧
      requestFrame (.unknownKind 0x7F (bare [])) = some (0x7F, []) := ⟨rfl, rfl, rfl, rfl, rfl, rfl⟩
/-- R182, Table 11-3: the characters of a START and of a STOP frame of lane 0. -/
theorem test_frame_names_its_request :
    after (.badFrame { chars := [0x5A, 0x02, 0x11, 0x00, 0xED].map fun b => { value := b, damaged := false }, outside := quiet })
        State.reset (fun t => decide ((t.lane 0).run = .running)) = true ∧
      after (.badFrame { chars := [0x5A, 0x02, 0x12, 0x00, 0xEC].map fun b => { value := b, damaged := false }, outside := quiet })
        (part laneUp) (fun t => decide ((t.lane 0).run = .ready)) = true := by decide +kernel
/-- BadFramesCountedAndDropped, both clauses; the second at a frame that lacks one byte. -/
theorem witness_bad_frames :
    (([2, 0x10, 0, 1] : List Byte).length = (([2, 0x10, 0, 1] : List Byte).headD 0).toNat + 2 ∧
      (∀ b ∈ ([2, 0x10, 0, 1] : List Byte), b ≠ 0x5A) ∧ byteSum [2, 0x10, 0, 1] ≠ 0) ∧
    (({ State.reset with rx := .frame [1, 0x25] } : State).rx = .frame (1 :: [0x25]) ∧ (∀ b ∈ ([1, 0x25] : List Byte), b ≠ 0x5A) ∧
      ([0x25] : List Byte).length ≤ (1 : Byte).toNat) := by decide +kernel
/-- BadFramesCountedAndDropped, examined again: lengths 0 and 252, whole frames of the shortest and another length with a start byte
within and a wrong sum, and a damaged character first and last. -/
theorem witness_bad_frames_again :
    (State.reset.rx = .hunt ∧ State.reset.lineGap = none ∧ State.reset.lineDrop = false) ∧
    ((0 : Byte).toNat = 0 ∧ 252 ≤ (252 : Byte).toNat) ∧
    (([0x5A, 0] : List Byte).length = (1 : Byte).toNat + 1 ∧ byteSum [1, 0x5A, 0] ≠ 0 ∧
      ([0x5A, 0, 1] : List Byte).length = (2 : Byte).toNat + 1 ∧ byteSum [2, 0x5A, 0, 1] ≠ 0) ∧
    (let d : LineChar := { value := 0, damaged := true }
     d.damaged = true ∧ ∀ n more, ([2, 0x5A, 1] : List Byte) = n :: more → more.length ≤ n.toNat) :=
  ⟨by decide +kernel, by decide +kernel, by decide +kernel, rfl, by rintro n more ⟨rfl, rfl⟩; decide⟩
/-- FramesNotServed, its three clauses. -/
theorem witness_not_served :
    (serves State.reset = true ∧ (0x80 : Byte) ∉ knownKinds) ∧
    (requestFrame (.inboundOverrun 0x48 (bare [1])) = some (0x48, [1]) ∧ fullPart.resetArmed = false ∧ 2 ≤ fullPart.area.length) ∧
    (requestFrame (.frameDiscardedAtReset 0x02 (bare [])) = some (0x02, []) ∧
      ({ State.reset with resetArmed := true } : State).resetArmed = true) := by decide +kernel
/-- LineTimingEvents. -/
theorem witness_line_timing :
    (({ State.reset with rx := .frame [3], lineGap := some 0, elapsed := 21 } : State).lineGap = some 0 ∧ 0 + 20 < 21) ∧
      (∃ f rest, fullPart.area = f :: rest) ∧
      (let s : State := { State.reset with lineDrop := true }
       s.lineDrop = true ∧ s.rx = .hunt ∧ s.lineGap = none) := ⟨⟨rfl, by decide⟩, ⟨_, _, rfl⟩, rfl, rfl, rfl⟩
/-- IdentifyAndGetTime and StatusReportsAndMarks, and the other statements whose one hypothesis is that frames are served. -/
theorem witness_serves : Serves worked ∧ ([0] : List Byte) ≠ [] ∧ 4 ≤ (0xFE : Byte).toNat ∧ (0xFE : Byte) ≠ 0xFF :=
  ⟨(serves_iff _).mp (by decide +kernel), by decide, by decide, by decide⟩
/-- SetTimeAndResetDevice: a stored record, and an empty part. -/
theorem witness_setTime :
    (serves twoStored = true ∧ (twoStored.lane 0).queue ≠ [] ∧ ([1, 0, 0, 0, 0, 0] : List Byte).length = 6) ∧
      (∀ l : LaneId, (State.reset.lane l).queue = [] ∧ (State.reset.lane l).portA.slot = none ∧
        (State.reset.lane l).portB.slot = none) := by decide +kernel
/-- StartOfReadyLane. -/
theorem witness_start :
    (serves State.reset = true ∧ (State.reset.lane 3).run = .ready) ∧ (serves (part laneUp) = true ∧ ((part laneUp).lane 0).run = .running) := by
  decide +kernel
/-- StopOfLane: with nothing to report, with two full slots, with a kick, a full slot and 255 losses, and with a kick and no
headroom. -/
theorem witness_stop :
    (let held : Option SlotRecord := some { code := [1], damaged := false, time := 0 }
     let s := part { laneUp with lost := 254, portA := { slot := held }, portB := { slot := held } }
     serves s = true ∧ (s.lane 0).run = .running ∧ (s.lane 0).drawer.st = .settling ∧ (s.lane 0).lost ≤ 255) ∧
    (serves (part laneUp) = true ∧ ((part laneUp).lane 0).run = .running ∧ ((part laneUp).lane 0).portA.slot = none ∧
      ((part laneUp).lane 0).portB.slot = none ∧ ((part laneUp).lane 0).drawer.st ≠ .kickPulse ∧
      ((part laneUp).lane 0).drawer.st ≠ .kickWait) ∧
    (let s := part { laneUp with drawer := { st := .kickPulse, tries := 1, kick := true }, lost := 255
                                 portA := { slot := some { code := [1], damaged := false, time := 0 } } }
     serves s = true ∧ (s.lane 0).run = .running ∧ (s.lane 0).drawer.st = .kickPulse ∧ 1 ≤ headroom s 0 ∧ (s.lane 0).lost ≤ 255) ∧
    (let s := part { filled .running 64 256 256 with drawer := drawerIn .kickWait }
     serves s = true ∧ (s.lane 0).run = .running ∧ (s.lane 0).drawer.st = .kickWait ∧ headroom s 0 = 0) := by
  decide +kernel

/-- A LANE_CONFIG body of lane 3 with a reserve, diodes field and masks. -/
def laneBody (reserve diodes mask : Byte) : List Byte :=
  [3, 4, 16, 4, 3, 3, 4, diodes, 50, 10, reserve, 0, 128, 0, 8, 8, mask, 0x3F, 0]

/-- LaneConfigJudgedAndTaken: each of its four outcomes, and each side of a clamp. -/
theorem witness_laneConfig :
    (laneBody 32 0 0x3F).length = 19 ∧ (laneBody 32 0 0x3F).head? = some (laneByte 3) ∧
    (serves worked = true ∧ (worked.lane 3).run = .ready) ∧
    ¬u8 (laneBody 32 2 0x3F) 7 ≤ 1 ∧ ¬u8 (laneBody 32 0 0x40) 16 < 64 ∧ u8 (laneBody 32 1 0x3F) 7 ≤ 1 ∧
    (let s' := fun c => (received worked).modLane 3 fun L => { L with cfg := c }
     ¬sumLanes sharedUse (s' (clampLane (laneGiven (laneBody 220 0 0x3F)))) ≤
        512 - sumLanes (fun L => L.cfg.reserve) (s' (clampLane (laneGiven (laneBody 220 0 0x3F)))) ∧
      sumLanes (fun L => L.cfg.reserve) (s' (clampLane (laneGiven (laneBody 32 0 0x3F)))) ≤ 512 ∧
      occupancy (worked.lane 3) ≤ (clampLane (laneGiven (laneBody 32 0 0x3F))).cap ∧
      sumLanes sharedUse (s' (clampLane (laneGiven (laneBody 32 0 0x3F)))) ≤
        512 - sumLanes (fun L => L.cfg.reserve) (s' (clampLane (laneGiven (laneBody 32 0 0x3F))))) ∧
    clampLane {} = {} ∧ clampLane { rows := 9 } ≠ { rows := 9 } := by decide +kernel

/-- GeneralLines: masks at their highest line and above it, owned rows and columns in and out of their turn, and low, released
and high lines. -/
theorem witness_lines :
    (let L : Lane := { laneUp with cfg := { rows := 8, cols := 16 }, rowTurn := some 7, contacts := closedSet [127] }
     L.cfg.rows ≤ 8 ∧ L.cfg.cols ≤ 16 ∧ lineOwned L 7 = true ∧ L.rowTurn = some 7 ∧ lineOwned L 0 = true ∧ L.rowTurn ≠ some 0 ∧
       lineOwned L 23 = true ∧ L.contacts.getLsbD (7 * 16 + (23 - 8)) = true ∧ lineOwned L 8 = true ∧
       L.contacts.getLsbD (7 * 16 + (8 - 8)) = false) ∧
    (u32 [0, 0xFF, 0xFF, 0xFF, 0x03, 0, 0, 0, 0] 1 < 2 ^ 26 ∧ 2 ^ 26 ≤ u32 [0, 0, 0, 0, 0x04, 0, 0, 0, 0] 1 ∧
      2 ≤ u8 [0, 0, 0, 0, 0, 0, 0, 0, 0, 2] 9) ∧
    lineOwned { run := .running, cfg := { rows := 8, cols := 16 } } 23 = true ∧
    lineOwned { run := .running, cfg := { rows := 8, cols := 16 } } 24 = false ∧
    (let L : Lane := { lineDir := BitVec.ofNat 26 0x82, lineLatch := BitVec.ofNat 26 0x80 }
     L.lineDir.getLsbD 0 = false ∧ L.lineDir.getLsbD 1 = true ∧ L.lineLatch.getLsbD 1 = false ∧ L.lineDir.getLsbD 7 = true ∧
       L.lineLatch.getLsbD 7 = true ∧ ∀ n, n < 26 → lineOwned L n = false) := by decide +kernel

/-- QuietPassChangesNothing, at the moment the pass is due. -/
theorem witness_quiet_pass :
    let s := at_ 4 (part laneUp)
    (s.lane 0).run = .running ∧ 1 ≤ (s.lane 0).cfg.rows ∧ (s.lane 0).passTimer = some 4 ∧ 4 ≤ s.elapsed ∧
      (s.lane 0).keys = Vector.replicate 128 .up ∧ (s.lane 0).repeating = none ∧ (s.lane 0).lock = computeLock (s.lane 0) := by
  decide +kernel

/-- Lane 0 at a due pass, with thresholds and three positions as given. -/
def passOf (d u : Nat) (k3 k18 k37 : KeyState) : State :=
  (keysAt k3 k18 k37 []).modLane 0 fun L => { L with cfg := { L.cfg with pressCount := d, releaseCount := u } }

/-- PassFollowsDebounceTable: a position and a reading for each of its clauses. -/
theorem witness_pass :
    passDue (passOf 3 2 .up .up .up) 0 = true ∧
    (let reads := fun s p => effectiveClosed (State.lane s 0).cfg (closedSet [3, 18]) p (keyAt (State.lane s 0) p)
     let s1 := passOf 3 2 .up .down (.releasePending 1)
     let s2 := passOf 3 3 (.pressPending 1 false) (.releasePending 1) .down
     let s3 := passOf 3 1 (.pressPending 3 true) (.pressPending 2 false) .down
     let s4 := passOf 1 1 .up .up (.pressPending 1 false)
     passDue s2 0 = true ∧ passDue s3 0 = true ∧ passDue s4 0 = true ∧
     (keyAt (s1.lane 0) 3 = .up ∧ reads s1 3 = true ∧ 1 < 3) ∧ (keyAt (s1.lane 0) 18 = .down ∧ reads s1 18 = true) ∧
     (keyAt (s1.lane 0) 37 = .releasePending 1 ∧ reads s1 37 = false ∧ 2 ≤ 1 + 1) ∧
     (keyAt (s2.lane 0) 3 = .pressPending 1 false ∧ reads s2 3 = true ∧ 1 + 1 < 3) ∧
     (keyAt (s2.lane 0) 18 = .releasePending 1 ∧ reads s2 18 = true) ∧ (keyAt (s2.lane 0) 37 = .down ∧ reads s2 37 = false) ∧
     (keyAt (s3.lane 0) 3 = .pressPending 3 true ∧ reads s3 3 = true) ∧
     (keyAt (s3.lane 0) 18 = .pressPending 2 false ∧ reads s3 18 = true ∧ 3 ≤ 2 + 1) ∧
     (keyAt (s4.lane 0) 3 = .up ∧ reads s4 3 = true ∧ 1 ≤ 1) ∧
     (keyAt (s4.lane 0) 37 = .pressPending 1 false ∧ reads s4 37 = false) ∧ (keymapAt (s4.lane 0) 3).cls ≠ .ignore) := by
  decide +kernel

/-- PassFollowsDebounceTable, a press that would complete: positions below it that stay, and one completing with room, at the
limit, and waiting. -/
theorem witness_press_room :
    let s := fun k37 held => (passOf 3 2 .up .up k37).modLane 0 fun L => { L with cfg := { L.cfg with rollover := 1 }, held := held }
    let free := s (.pressPending 2 false) []
    let full := s (.pressPending 2 false) [heldNormal 90 0]
    let waits := s (.pressPending 3 true) [heldNormal 90 0]
    (∀ s ∈ [free, full, waits], passDue s 0 = true ∧
      effectiveClosed (s.lane 0).cfg (closedSet [37]) 37 (keyAt (s.lane 0) 37) = true ∧ (keymapAt (s.lane 0) 37).cls = .normal ∧
      ∀ q, q < 37 → (walkStep (s.lane 0) (closedSet [37]) q).1 = keyAt (s.lane 0) q) ∧
    rolloverCount (free.lane 0) < 1 ∧ ¬rolloverCount (full.lane 0) < 1 ∧ ¬rolloverCount (waits.lane 0) < 1 ∧
    keyAt (full.lane 0) 37 = .pressPending 2 false ∧ 3 ≤ 2 + 1 ∧ keyAt (waits.lane 0) 37 = .pressPending 3 true := by decide +kernel

/-- PassFollowsDebounceTable, ghost analysis: no rectangle, one that begins an episode, and one in progress. -/
theorem witness_ghost :
    passDue (at_ 4 (part laneUp)) 0 = true ∧ lowestGhost laneUp.cfg (closedSet [1, 16]) = none ∧
      lowestGhost laneUp.cfg (closedSet [0, 1, 16]) = some 0 ∧ laneUp.ghost = false ∧
      ((part { laneUp with ghost := true }).lane 0).ghost = true ∧ laneUp.cfg.diodes = false ∧
      lowestGhost { laneUp.cfg with diodes := true } (closedSet [0, 1, 16]) = none := by decide +kernel

/-- Lane 0 with a position of each class, its drawer in SHUT with local kick on, and the lock position allowing a kick. -/
def classLane : Lane :=
  { shiftLane with
    keymap := (shiftLane.keymap.set 4 { cls := .drawer, base := 4, shifted := 4, repeats := false }
      |>.set 5 { cls := .clearRecent, base := 5, shifted := 5, repeats := false })
    drawer := { drawerIn .shut with localKick := true } }

/-- PressAndReleaseHandedOver: a press of each class, a DRAWER press that kicks and one that does not, and a release. -/
theorem witness_press_release :
    (keymapAt ((part shiftLane).lane 0) 20).cls = .normal ∧ (heldFind ((part shiftLane).lane 0) 3).isSome = true ∧
    (let s := part classLane
     (keymapAt (s.lane 0) 3).cls = .shift ∧ (keymapAt (s.lane 0) 4).cls = .drawer ∧ (keymapAt (s.lane 0) 5).cls = .clearRecent ∧
       (keymapAt (s.lane 0) 113).cls = .lockContact ∧ (s.lane 0).portA.slot = none ∧ (s.lane 0).portB.slot = none ∧
       (s.lane 0).drawer.localKick = true ∧ (s.lane 0).run = .running ∧ s.inhibit = false ∧ kickAllowed (s.lane 0) = true ∧
       (s.lane 0).drawer.st = .shut) ∧
    ((part { classLane with drawer := drawerIn .shut }).lane 0).drawer.localKick = false := by decide +kernel

/-- PressAndReleaseHandedOver, the pass end: one due and one not, releases from DOWN and RELEASE_PENDING, and a quiet position. -/
theorem witness_pass_end :
    passDue (passOf 3 1 .up .down .up) 0 = true ∧ passDue State.reset 0 = false ∧
    (let reads := fun s p => effectiveClosed (State.lane s 0).cfg (closedSet []) p (keyAt (State.lane s 0) p)
     let moves := fun s p => (walkStep (State.lane s 0) (closedSet []) p).2
     let s1 := passOf 3 1 .up .down .up
     let s2 := passOf 3 2 .up .down (.releasePending 1)
     (reads s1 18 = false ∧ keyAt (s1.lane 0) 18 = .down ∧ (s1.lane 0).cfg.releaseCount ≤ 1 ∧ moves s1 18 = .release) ∧
     (reads s2 37 = false ∧ keyAt (s2.lane 0) 37 = .releasePending 1 ∧ (s2.lane 0).cfg.releaseCount ≤ 1 + 1) ∧
     moves s2 18 = .quiet ∧ moves s2 127 = .quiet) := by decide +kernel

/-- RepeatAtNotice: just before the due mark, and at it, in and out of store-high. -/
theorem witness_repeat :
    let L := { laneUp with repeating := some { pos := 20, number := 254, due := 21650 }, held := [heldNormal 20 21050] }
    (heldFind L 20).isSome = true ∧ (at_ 21649 (part L)).elapsed < 21650 ∧ 21650 ≤ (at_ 21650 (part L)).elapsed ∧
      ((part L).lane 0).storeHigh = false ∧ ((part { L with storeHigh := true }).lane 0).storeHigh = true ∧
      laneUp.repeating = none := by decide +kernel

/-- LockPositionAtNotice, the notice: an index that is new, one that is the last, in transit, and no lock contact. -/
theorem witness_lock_notice :
    let contact : HeldKey := { pos := 113, cls := .lockContact, code := 1, layer := false, repeats := false, mark := 0 }
    computeLock { shiftLane with held := [contact] } = .index 1 ∧ shiftLane.lastLock ≠ some 1 ∧
      ({ shiftLane with lastLock := some 1 } : Lane).lastLock = some 1 ∧ computeLock shiftLane = .inTransit ∧
      computeLock laneUp = .noLock ∧ shiftLane.portA.slot = none ∧ shiftLane.portB.slot = none := by decide +kernel

/-- LockPositionAtNotice: no lock contact in the keymap, none held, and exactly one held. -/
theorem witness_lock :
    passDue (at_ 4 (part laneUp)) 0 = true ∧ hasLockContact laneUp = false ∧ hasLockContact shiftLane = true ∧
    (let contacts := fun t => (State.lane t 0).held.filter fun h => decide (h.cls = .lockContact)
     after (.samplePassEnd 0 0) (at_ 4 (part shiftLane)) (fun t => decide ((contacts t).length ≠ 1)) = true ∧
     after (.samplePassEnd 0 (closedSet [113]))
       (at_ 4 (part { shiftLane with cfg := { rows := 8, cols := 16, pressCount := 1 } }))
       (fun t => decide ((contacts t).map HeldKey.pos = [113])) = true) := by decide +kernel

/-- A KEYMAP_WRITE of the last 16 positions. -/
def keymapBody : List Byte := [0, 112, 16] ++ (List.replicate 16 ([1, 0, 0, 0, 0, 0] : List Byte)).flatten

/-- KeymapWrittenAndRead, at the end of the keymap and with 16 entries. -/
theorem witness_keymap :
    keymapBody.head? = some (laneByte 0) ∧ u8 keymapBody 2 = 16 ∧ keymapBody.length = 3 + 6 * u8 keymapBody 2 ∧
      u8 keymapBody 1 + u8 keymapBody 2 = 128 ∧ (∀ j, j < 16 → ¬KeymapEntryBad keymapBody j) ∧
      (State.reset.lane 0).run = .ready ∧ (∀ j, j < 16 → (keymapAt laneUp (112 + j)).cls ≠ .lockContact) ∧
      (∀ j, j < 16 → u8 keymapBody (3 + 6 * j) ≠ 3) ∧
      (112 : Byte).toNat + (16 : Byte).toNat ≤ 128 ∧ 128 < (113 : Byte).toNat + (16 : Byte).toNat := by
  unfold KeymapEntryBad
  decide +kernel

/-- KeymapWrittenAndRead, each refusal: lane 4, a count of 0 and of 17, a position past 127, a class of 6, a repeat flag of 2, a
lock index of 6, and a lock contact written in a running lane. -/
theorem witness_keymap_refused :
    let one : List Byte → List Byte := fun e => [0, 127, 1] ++ e
    4 ≤ (4 : Byte).toNat ∧ u8 [0, 0, 0] 2 = 0 ∧ 16 < u8 [0, 0, 17] 2 ∧ (one [1, 0, 0, 0, 0]).length ≠ 3 + 6 * 1 ∧
      128 < u8 [0, 127, 2] 1 + u8 [0, 127, 2] 2 ∧ 5 < u8 (one [6, 0, 0, 0, 0, 0]) 3 ∧ 1 < u8 (one [1, 0, 0, 0, 0, 2]) 8 ∧
      u8 (one [3, 6, 0, 0, 0, 0]) 3 = 3 ∧ 5 < u16 (one [3, 6, 0, 0, 0, 0]) 4 ∧
      (u8 (one [3, 5, 0, 0, 0, 0]) 1 + 1 ≤ 128 ∧ ¬5 < u16 (one [3, 5, 0, 0, 0, 0]) 4 ∧ u8 (one [3, 5, 0, 0, 0, 0]) 3 = 3 ∧
        ((part laneUp).lane 0).run = .running) := by decide +kernel

/-- A PORT_CONFIG body with a terminator and a gap timeout. -/
def portBody (terminator gapTime : Byte) : List Byte := [0, 1, 1, 3, 8, 0, 2, 0, terminator, 0x7E, gapTime, 0, 0, 20, 0]

/-- PortConfigTaken: a reply mark equal to the terminator, a running lane, and a ready one with a gap timeout of 4. -/
theorem witness_portConfig :
    (portBody 0x0D 4).length = 15 ∧ (portBody 0x0D 4).head? = some (laneByte 0) ∧ portOf (portBody 0x0D 4) 1 = some .B ∧
      (∀ c ∈ portGiven (portBody 0x0D 4), ¬BreaksByteFields c) ∧ (∀ c ∈ portGiven (portBody 0x7E 4), BreaksByteFields c) ∧
      (portGiven (portBody 0x0D 4)).isSome = true ∧ (portGiven (portBody 0x7E 4)).isSome = true ∧
      (portGiven (portBody 0x0D 4)).map (fun c => decide (1 ≤ c.gapTimeout ∧ c.gapTimeout < 5)) = some true ∧
      ((part laneUp).lane 0).run = .running ∧ (State.reset.lane 0).run = .ready := by
  unfold BreaksByteFields
  decide +kernel

/-- PortConfigTaken: a body with each undefined field, and one with none. -/
theorem witness_portConfig_undefined :
    let body := portBody 0x0D 4
    let with_ := fun (i : Nat) (v : Byte) => u8 (body.set i v) i
    (∀ i ∈ [1, 2, 3, 4, 5, 6, 14], (body.set i 0x10).length = 15 ∧ (body.set i 0x10).head? = some (laneByte 0)) ∧
    (1 < with_ 1 2 ∧ 1 < with_ 2 2 ∧ 7 < with_ 3 8 ∧ (with_ 4 6 ≠ 7 ∧ with_ 4 6 ≠ 8) ∧ 2 < with_ 5 3 ∧ 16 ≤ with_ 6 16 ∧
      1 < with_ 14 2) ∧
    ¬(1 < u8 body 1 ∨ 1 < u8 body 2 ∨ 7 < u8 body 3 ∨ (u8 body 4 ≠ 7 ∧ u8 body 4 ≠ 8) ∨ 2 < u8 body 5 ∨ 16 ≤ u8 body 6 ∨
      1 < u8 body 14) := by decide +kernel

/-- ScannerSendQueued, filling the queue with six bytes, the expect flag on. -/
theorem witness_send :
    let s := withPortA { portUp with txq := [{ value := 1 }, { value := 2 }] }
    serves s = true ∧ (s.lane 0).run = .running ∧ (s.port 0 .A).cfg.enabled = true ∧ (s.port 0 .A).txq.length + 6 ≤ 8 ∧
      (s.port 0 .A).cfg.replyMark.present = true ∧ (s.port 0 .A).expect ≠ .awaitingSend ∧ (s.port 0 .A).expect ≠ .timing := by
  decide +kernel

/-- ScannerSendQueued, each refusal: counts of 0 and 7, a short body, a port of 2, a disabled port, the flag without a reply mark,
a full queue, and an expectation outstanding. -/
theorem witness_send_refused :
    let body := fun p flag : Byte => ([0, p, flag, 1, 0x16] : List Byte)
    u8 [0, 0, 0, 0] 3 = 0 ∧ 6 < u8 [0, 0, 0, 7] 3 ∧ ([0, 0, 0, 2, 1] : List Byte).length ≠ 4 + u8 [0, 0, 0, 2, 1] 3 ∧
      (body 1 1).length = 4 + u8 (body 1 1) 3 ∧ 1 < u8 (body 2 0) 1 ∧ 1 < u8 (body 0 2) 2 ∧ u8 (body 1 1) 1 = portNum .B ∧
      ((part laneUp).port 0 .B).cfg.enabled = false ∧ (State.reset.lane 0).run = .ready ∧
      (let s := withPortA { portUp with txq := List.replicate 8 { value := 1 }, expect := .timing }
       (s.lane 0).run = .running ∧ (s.port 0 .A).cfg.enabled = true ∧ (s.port 0 .A).cfg.replyMark.present = true ∧
         (s.port 0 .A).txq.length + 1 > 8 ∧ (s.port 0 .A).expect = .timing) ∧
      ((withPortA { portUp with cfg := { portUp.cfg with replyMark := {} } }).port 0 .A).cfg.replyMark.present = false := by
  decide +kernel

/-- CharactersDiscardedOrMasked: a ready lane, a disabled port, a character begun before START, and a port of 7 data bits. -/
theorem witness_discarded :
    (State.reset.lane 0).run = .ready ∧ ((part laneUp).port 0 .B).cfg.enabled = false ∧
      ((withPortA { portUp with charDrop := true }).port 0 .A).charDrop = true ∧
      ((withPortA { portUp with cfg := { portUp.cfg with sevenBits := true } }).port 0 .A).cfg.sevenBits = true := by decide +kernel

/-- CharacterAppended, with 47 bytes held on a port of 7 data bits, with and without a line fault before; and a terminator with
nothing held. -/
theorem witness_character :
    let P := { collected portUp (List.replicate 47 0x31) with cfg := { portUp.cfg with parity := .even, sevenBits := true, gapTimeout := 0 } }
    let s := withPortA P
    (s.lane 0).run = .running ∧ (s.port 0 .A).cfg.enabled = true ∧ (s.port 0 .A).charDrop = false ∧ (s.port 0 .A).rx = .assembly ∧
      (s.port 0 .A).buf.length < 48 ∧ DataBits (s.port 0 .A).cfg 0x7F ∧ (s.port 0 .A).cfg.parity ≠ .none ∧
      (0x7F : Byte) ≠ (s.port 0 .A).cfg.terminator ∧ (s.port 0 .A).lineFault = false ∧
      ((withPortA { P with lineFault := true }).port 0 .A).lineFault = true ∧
      ((withPortA (collected portUp [])).port 0 .A).buf = [] ∧ (0x0D : Byte) = portUp.cfg.terminator := by
  unfold DataBits
  decide +kernel

/-- HuntFortyNinthByteAndOverrun: a port with a prefix and without, one in SKIP, a full buffer, and an occupied slot. -/
theorem witness_hunt :
    ((withPortA portUp).port 0 .A).rx = .hunt ∧ ((withPortA portUp).port 0 .A).cfg.pre.present = false ∧
    ((withPortA { portUp with rx := .skip }).port 0 .A).rx = .skip ∧
    0x0D = ((withPortA portUp).port 0 .A).cfg.terminator ∧ 0x41 ≠ ((withPortA portUp).port 0 .A).cfg.terminator ∧
    (let s := withPortA { portUp with cfg := { portUp.cfg with pre := { present := true, value := 0x02 } } }
     (s.port 0 .A).rx = .hunt ∧ (s.port 0 .A).cfg.pre.present = true ∧ (0x02 : Byte) = (s.port 0 .A).cfg.pre.value ∧
       (0x03 : Byte) ≠ (s.port 0 .A).cfg.pre.value) ∧
    (let s := withPortA (collected portUp (0x30 :: List.replicate 47 0x31))
     (s.port 0 .A).rx = .assembly ∧ (s.port 0 .A).buf = 0x30 :: List.replicate 47 0x31 ∧ (0x31 : Byte) ≠ (s.port 0 .A).cfg.terminator) ∧
    (let s := withPortA { collected portUp [0x7E] with
       firstDamaged := true, slot := some { code := [1], damaged := false, time := 0 } }
     (s.port 0 .A).rx = .assembly ∧ (s.port 0 .A).buf ≠ [] ∧ ¬ReplyMarked (s.port 0 .A) ∧
       (s.port 0 .A).slot.isSome = true ∧ (s.port 0 .A).charDrop = false ∧ DataBits (s.port 0 .A).cfg 0x0D) := by
  unfold ReplyMarked DataBits
  decide +kernel

/-- HuntFortyNinthByteAndOverrun, a character with a parity error: in HUNT with a prefix and without, as the 49th byte, and in SKIP;
and none on a port without parity. -/
theorem witness_hunt_parity :
    let even := { portUp with cfg := { portUp.cfg with parity := .even } }
    let s := fun P => withPortA P
    Damages even.cfg .parity .lineParity ∧ Damages even.cfg .framing .lineFraming ∧ ¬Damages portUp.cfg .parity .lineParity ∧
    ((s even).port 0 .A).rx = .hunt ∧ ((s even).port 0 .A).cfg.pre.present = false ∧
    (let prefixed := { even with cfg := { even.cfg with pre := { present := true, value := 0x02 } } }
     Damages prefixed.cfg .parity .lineParity ∧ ((s prefixed).port 0 .A).cfg.pre.present = true) ∧
    ((s (collected even (0x30 :: List.replicate 47 0x31))).port 0 .A).cfg = even.cfg ∧
    ((s { even with rx := .skip }).port 0 .A).rx = .skip ∧ DataBits even.cfg 0x0D ∧ (s even).port 0 .A = even := by
  unfold Damages DataBits
  decide +kernel

/-- ScanAcceptedAtCompletion, with a code of 48 bytes and a full table of other codes. -/
theorem witness_scan :
    let table : List RecentEntry := (List.range 8).map fun n => { code := [byteOf n], port := .A, time := 0 }
    let s := part { laneUp with
      recent := table, portA := collected portUp (List.replicate 48 0x31) }
    (s.lane 0).run = .running ∧ (s.port 0 .A).cfg.enabled = true ∧ (s.port 0 .A).rx = .assembly ∧ (s.port 0 .A).damaged = false ∧
      ¬ReplyMarked (s.port 0 .A) ∧ DataBits (s.port 0 .A).cfg 0x0D ∧ (s.lane 0).portA.slot = none ∧ (s.lane 0).portB.slot = none ∧
      scanAllowed (s.lane 0) = true ∧ symbologyIndex s.symbology (s.port 0 .A).buf = none ∧ s.strict = false ∧
      (∀ e ∈ (s.lane 0).recent, e.code ≠ (s.port 0 .A).buf) ∧ recordSlots (.scan .A 15 (s.port 0 .A).buf) ≤ headroom s 0 := by
  unfold ReplyMarked DataBits
  decide +kernel

/-- RepliesAndPortTimers: a reply-marked record that completes beside an occupied slot, and a damaged first byte. -/
theorem witness_reply_completes :
    (let s := withPortA { collected portUp [0x7E, 0x31] with slot := some { code := [1], damaged := false, time := 0 } }
     (s.lane 0).run = .running ∧ (s.port 0 .A).cfg.enabled = true ∧ (s.port 0 .A).charDrop = false ∧
       DataBits (s.port 0 .A).cfg (s.port 0 .A).cfg.terminator ∧ (s.port 0 .A).rx = .assembly ∧ ReplyMarked (s.port 0 .A)) ∧
    ({ collected portUp [0x7E] with firstDamaged := true } : Port).firstDamaged = true := by
  unfold ReplyMarked DataBits
  decide +kernel

/-- RepliesAndPortTimers: the expectation states, each timer at its moment, and a byte sent, marked and unmarked, with bytes queued
and with none. -/
theorem witness_port_timers :
    (let s := fun e => withPortA { portUp with expect := e, replyTimer := some 200, tx := some lastByte }
     ((s .awaitingSend).port 0 .A).expect = .awaitingSend ∧ ((s .timing).port 0 .A).expect = .timing ∧
       ((s .timedOut).port 0 .A).expect = .timedOut ∧ ((s .idle).port 0 .A).expect = .idle ∧
       ((s .awaitingSend).port 0 .A).tx.map TxNow.last = some true ∧ ((s .awaitingSend).port 0 .A).txq = [] ∧
       ((s .timing).port 0 .A).replyTimer = some 200 ∧ 200 ≤ (at_ 200 (s .timing)).elapsed) ∧
    (let s := at_ 50 (withPortA { collected portUp [1] with gap := some 50 })
     (s.lane 0).run = .running ∧ (s.port 0 .A).cfg.enabled = true ∧ (s.port 0 .A).gap = some 50 ∧ 50 ≤ s.elapsed ∧
       (s.port 0 .A).rx = .assembly) ∧
    ((withPortA { portUp with rx := .skip, gap := some 50 }).port 0 .A).rx = .skip ∧
    (let s := withPortA { portUp with tx := some { lastByte with last := false }, txq := [{ value := 1 }] }
     ((s.port 0 .A).tx.map TxNow.last = some false ∧ (s.port 0 .A).txq = { value := 1 } :: [])) ∧
    (let s := withPortA { portUp with tx := some { lastByte with last := false } }
     ((s.port 0 .A).tx.map TxNow.last = some false ∧ (s.port 0 .A).txq = [])) ∧
    (let s := withPortA { portUp with tx := some lastByte, expect := .awaitingSend, txq := [{ value := 1 }] }
     (s.port 0 .A).tx.map TxNow.last = some true ∧ (s.port 0 .A).expect = .awaitingSend ∧
       (s.port 0 .A).txq = { value := 1 } :: []) := by decide +kernel

/-- A record of a code, read at a time. -/
def readAt (code : List Byte) (damaged : Bool) (time : Nat) : SlotRecord :=
  { code := code, damaged := damaged, time := BitVec.ofNat 48 time }

/-- ScreeningAndDuplicates: a code for each judgement, and elapsed times on both sides of the windows. -/
theorem witness_screening :
    scanAllowed { laneUp with lock := .inTransit } = false ∧ scanAllowed laneUp = true ∧
    (readAt codeX true 0).damaged = true ∧
    (symbologyIndex (seenX 0 laneUp).symbology (ascii "C5") = none ∧ (seenX 0 laneUp).strict = true) ∧
    (symbologyIndex (seenX 0 laneUp).symbology codeX = some 0 ∧ symbologyIndex (seenX 0 laneUp).symbology (ascii "A1") = some 0 ∧
      ((ascii "A1").drop 1).length < 8 ∧ ((ascii "A4006381333932").drop 1).length = 13 ∧
      checkPasses 3 1 ((ascii "A4006381333932").drop 1) = false ∧
      (seenX 0 laneUp).symbology[0].rule = .mod10w31) ∧
    (let table := ((seenX 100000 laneUp).lane 0).recent
     ((recentFind table codeX).map RecentEntry.port = some .A ∧ (recentFind table codeX).map RecentEntry.time = some 100000) ∧
       (readAt codeX false 100499).time.toNat - 100000 < 500 ∧ 500 ≤ (readAt codeX false 100500).time.toNat - 100000 ∧
       (readAt codeX false 99999).time.toNat < 100000) := by decide +kernel

/-- The judgements of a check rule that a lower minimum or another rule lets be reached. -/
theorem witness_screening_rules :
    let e := fun rule : CheckRule => ({ present := true, mark := 0x41, minLen := 1, maxLen := 13, rule := rule } : SymEntry)
    let table := fun rule => State.reset.symbology.set 0 (e rule)
    symbologyIndex (table .mod10w13) (ascii "A5") = some 0 ∧ ((ascii "A5").drop 1).length < 2 ∧
      ¬((ascii "A5").drop 1).length < (e .mod10w13).minLen ∧
      (∀ b ∈ (ascii "A5").drop 1, 0x30 ≤ b.toNat ∧ b.toNat ≤ 0x39) ∧
      ¬(∀ b ∈ (ascii "A2X").drop 1, 0x30 ≤ b.toNat ∧ b.toNat ≤ 0x39) ∧
      symbologyIndex (table .mod10w13) (ascii "A1231") = some 0 ∧ checkPasses 1 3 ((ascii "A1231").drop 1) = false := by
  decide +kernel

/-- ScreeningAndDuplicates, passing records and attempts: a matched code that passes its check, an unlisted one, and an accepted, a
rejected and a suppressed record, with the headroom for each and without. -/
theorem witness_attempts :
    let s := seenX 0 laneUp
    let fresh := readAt (ascii "A5012345678900") false 7
    (symbologyIndex s.symbology fresh.code = some 0 ∧ (s.symbology[0]).minLen ≤ (fresh.code.drop 1).length ∧
      (fresh.code.drop 1).length ≤ (s.symbology[0]).maxLen ∧ checkPasses 3 1 (fresh.code.drop 1) = true) ∧
    (symbologyIndex State.reset.symbology fresh.code = none ∧ State.reset.strict = false) ∧
    screen s (s.lane 0) .A fresh = .accept 0 ∧ screen s (s.lane 0) .A (readAt codeX true 7) = .reject .lineError 15 ∧
    screen s (s.lane 0) .B (readAt codeX false 7) = .suppress true ∧
    recordSlots (.scan .A 0 fresh.code) ≤ headroom s 0 ∧ 1 ≤ headroom s 0 ∧
    (let full := part (filled .running 64 256 256)
     headroom full 0 = 0 ∧ screen full (full.lane 0) .A fresh = .accept 15 ∧ headroom full 0 < recordSlots (.scan .A 15 fresh.code) ∧
       screen full (full.lane 0) .A (readAt codeX true 7) = .reject .lineError 15) := by decide +kernel

/-- FilterRequests, a SYMBOLOGY_WRITE refused: counts of 0 and 9, a short body, index 8, presence 2, and a rule of 3. -/
theorem witness_symbology_refused :
    let one := fun i present rule : Byte => ([i, 1, present, 0x41, 1, 9, rule] : List Byte)
    u8 [0, 0] 1 = 0 ∧ 8 < u8 [0, 9] 1 ∧ ([0, 1, 1] : List Byte).length ≠ 2 + 5 * u8 [0, 1, 1] 1 ∧
      (one 8 1 0).length = 2 + 5 * u8 (one 8 1 0) 1 ∧ 8 < u8 (one 8 1 0) 0 + u8 (one 8 1 0) 1 ∧ 1 < u8 (one 0 2 0) 2 ∧
      u8 (one 7 1 3) 2 = 1 ∧ 2 < u8 (one 7 1 3) 6 := by decide +kernel

/-- FilterRequests: a short body, both sides of the off/on check, and a defined rule. -/
theorem witness_filter :
    ([2, 0, 0, 0] : List Byte).length ≠ 5 ∧ ([2, 0, 0, 0, 0] : List Byte).length = 5 ∧ 2 ≤ u8 [2, 0, 0, 0, 0] 0 ∧ u8 [1, 0x88, 0x13, 0x89, 0x13] 0 ≤ 1 ∧
      u16 [1, 0x88, 0x13, 0x89, 0x13] 1 = 5000 ∧ u16 [1, 0x88, 0x13, 0x89, 0x13] 3 = 5001 ∧ ruleOf (2 : Byte).toNat = some .mod10w13 ∧
      ((seenX 5 laneUp).lane 0).portA.slot = none := by decide +kernel

/-- FilterRequests, a SYMBOLOGY_WRITE of two and of eight entries, empty and present, with every length kept and with one changed. -/
theorem witness_symbology_entries :
    let kept : List Byte := [6, 2, 0, 0, 0, 0, 9, 1, 0x41, 13, 47, 2]
    let changed : List Byte := [0, 8] ++ (List.replicate 8 ([1, 0x41, 20, 10, 1] : List Byte)).flatten
    (∀ body ∈ [kept, changed], 1 ≤ u8 body 1 ∧ u8 body 1 ≤ 8 ∧ body.length = 2 + 5 * u8 body 1 ∧ u8 body 0 + u8 body 1 ≤ 8 ∧
      ∀ j, j < u8 body 1 → u8 body (2 + 5 * j) = 0 ∨ u8 body (2 + 5 * j) = 1 ∧ u8 body (6 + 5 * j) ≤ 2) ∧
    u8 kept 2 = 0 ∧ u8 kept 7 = 1 ∧ symLengths kept 1 = (u8 kept 9, u8 kept 10) ∧
    u8 changed 2 = 1 ∧ symLengths changed 0 ≠ (u8 changed 4, u8 changed 5) := by decide +kernel

/-- FilterRequests, FORGET: in READY, with one record waiting, and with two. -/
theorem witness_forget :
    let r := readAt codeX false 7
    let waiting := fun slot => part { laneUp with portA := { portUp with slot := some r }, portB := { portUp with slot := slot } }
    (State.reset.lane 0).run = .ready ∧
    (let s := waiting none
     serves s = true ∧ (s.lane 0).run = .running ∧ (s.port 0 .A).slot = some r ∧ (s.port 0 (otherPort .A)).slot = none) ∧
    (let s := waiting (some r)
     (s.lane 0).run = .running ∧ (s.port 0 .A).slot = some r ∧ (s.port 0 (otherPort .A)).slot = some r ∧ Before .A r r) := by
  unfold Before
  decide +kernel

/-- GrowthAttemptsWaitingRecord: with and without a waiting record. -/
theorem witness_growth :
    ((part { laneUp with growth := true }).lane 0).growth = true ∧
    (let r := readAt codeX false 7
     let s := seenX 0 { laneUp with growth := true, portB := { portUp with slot := some r } }
     let s' := s.modLane 0 fun L => { L with recent := [] }
     (s'.port 0 .B).slot = some r ∧ (s'.port 0 .A).slot = none ∧ screen s' (s'.lane 0) .B r = .accept 0 ∧
       recordSlots (.scan .B 0 r.code) ≤ headroom s' 0 ∧ (s'.lane 0).run = .running) := by decide +kernel

/-- GrowthAttemptsWaitingRecord, two slots: equal times and unequal ones, growth with both slots occupied, and a record that completes
as the head, behind an older one, and with no room. -/
theorem witness_two_slots :
    let r := readAt codeX false 7
    let slotB := fun time => { portUp with slot := some (readAt (ascii "C5") false time) }
    (Before .A r (readAt (ascii "C5") false 7) ∧ ¬Before .B r (readAt (ascii "C5") false 7) ∧
      Before .B r (readAt (ascii "C5") false 8) ∧ ¬Before .A r (readAt (ascii "C5") false 6)) ∧
    (let s := part { laneUp with growth := true, portA := { portUp with slot := some r }, portB := slotB 7 }
     (s.lane 0).growth = true ∧ (s.lane 0).run = .running ∧ (s.port 0 .A).slot = some r ∧
       (s.port 0 (otherPort .A)).slot = some (readAt (ascii "C5") false 7)) ∧
    (let s := at_ 7 (part { filled .running 64 256 256 with portA := collected portUp codeX, portB := slotB 7 })
     let held := s.modPort 0 .A fun P => { completedPort P with slot := some r }
     (s.port 0 .A).buf ≠ [] ∧ ¬ReplyMarked (s.port 0 .A) ∧ (s.port 0 .A).slot = none ∧ (s.port 0 .A).rx = .assembly ∧
       (s.port 0 .A).buf = r.code ∧ s.clock = r.time ∧ (s.port 0 (otherPort .A)).slot = some (readAt (ascii "C5") false 7) ∧
       screen held (held.lane 0) .A r = .accept 15 ∧ headroom held 0 < recordSlots (.scan .A 15 r.code) ∧
       screen held (held.lane 0) .A { r with damaged := true } = .reject .lineError 15 ∧ headroom held 0 < 1) := by
  unfold ReplyMarked Before
  decide +kernel

/-- OfferLost and AdmissionJoinsTailAndRecomputes: one slot of headroom, against two slots and one. -/
theorem witness_offers :
    let s := part (filled .running 64 256 255)
    headroom s 0 = 1 ∧ headroom s 0 < recordSlots (.scan .A 15 codeX) ∧ recordSlots .laneStart ≤ headroom s 0 := by decide +kernel

/-- FetchTakesFromTheHead and PurgeEmptiesTheQueue. -/
theorem witness_fetch :
    serves twoStored = true ∧ (∀ r ∈ (twoStored.lane 0).queue, recordLength r.body ≤ 59) ∧
      recordLength (.scan .A 15 (List.replicate 48 0)) = 59 := by decide +kernel

/-- KickJudgedByTable: each of its conditions. -/
theorem witness_kick :
    (let s := fun st => withDrawer (drawerIn st)
     serves (s .shut) = true ∧ ((s .shut).lane 0).run = .running ∧ (s .shut).inhibit = false ∧
       kickAllowed ((s .shut).lane 0) = true ∧ ((s .shut).lane 0).drawer.st = .shut ∧ ((s .kickWait).lane 0).drawer.st = .kickWait ∧
       ((s .kickPulse).lane 0).drawer.st = .kickPulse ∧ ((s .settling).lane 0).drawer.st = .settling ∧
       ((s .opened).lane 0).drawer.st = .opened ∧ ((s .overdue).lane 0).drawer.st = .overdue) ∧
    (State.reset.lane 0).run = .ready ∧ kickAllowed { laneUp with lock := .inTransit } = false ∧
    kickAllowed { laneUp with lock := .index 5 } = true := by decide +kernel

/-- ScreeningAndDuplicates, KickJudgedByTable and SensorAndAlarmEvents, the gates: no lock, in transit, and an index in and out of
each mask. -/
theorem witness_gates :
    let L := fun lock => { laneUp with lock := lock, cfg := { laneUp.cfg with scanMask := 2, kickMask := 4, pauseMask := 32 } }
    (L .noLock).lock = .noLock ∧ (L .inTransit).lock = .inTransit ∧ (L (.index 5)).lock = .index 5 ∧
      scanAllowed (L (.index 1)) = true ∧ scanAllowed (L (.index 0)) = false ∧ kickAllowed (L (.index 2)) = true ∧
      kickAllowed (L (.index 5)) = false ∧ alarmPaused (L (.index 5)) = true ∧ alarmPaused (L (.index 0)) = false := by decide +kernel

/-- KickTimersExpire: at their moments, with a try left and with none. -/
theorem witness_kick_timers :
    (let s := at_ 80 (withDrawer { drawerIn .kickPulse with pulse := some 80 })
     (s.lane 0).drawer.st = .kickPulse ∧ (s.lane 0).drawer.pulse = some 80 ∧ 80 ≤ s.elapsed) ∧
    (let s := fun n => at_ 600 (withDrawer { drawerIn .kickWait with tries := n, retry := some 600 })
     ((s 1).lane 0).drawer.st = .kickWait ∧ ((s 1).lane 0).drawer.retry = some 600 ∧ 600 ≤ (s 1).elapsed ∧
       ((s 1).lane 0).drawer.tries < ((s 1).lane 0).drawer.active.maxTries ∧
       ((s 2).lane 0).drawer.active.maxTries ≤ ((s 2).lane 0).drawer.tries) := by decide +kernel

/-- DebouncedChangesMoveTheDrawer: in every drawer state, at the debounce time, open and shut. -/
theorem witness_debounced :
    let s := fun st sense => at_ 20 (withDrawer { drawerIn st with measure := some 0, dsense := sense })
    (∀ st ∈ [DrawerState.settling, .shut, .kickPulse, .kickWait, .opened, .overdue],
      ((s st true).lane 0).run = .running ∧ ((s st true).lane 0).drawer.st = st ∧ ((s st true).lane 0).drawer.measure = some 0 ∧
        0 + ((s st true).lane 0).drawer.debounce ≤ (s st true).elapsed) ∧
    ((s .shut true).lane 0).drawer.dsense = ((s .shut true).lane 0).drawer.openHigh ∧
    ((s .opened false).lane 0).drawer.dsense ≠ ((s .opened false).lane 0).drawer.openHigh := by decide +kernel

/-- SensorAndAlarmEvents: a level kept, moved in READY, in SETTLING and in SHUT both ways, and an alarm at its moment. -/
theorem witness_sensor :
    (let s := withDrawer (drawerIn .shut)
     false = (s.lane 0).drawer.dsense ∧ true ≠ (s.lane 0).drawer.dsense ∧ (s.lane 0).run = .running ∧
       (s.lane 0).drawer.st ≠ .settling ∧ (decide (true = (s.lane 0).drawer.openHigh)) ≠ (decide ((s.lane 0).drawer.st = .opened))) ∧
    (let s := withDrawer { drawerIn .shut with dsense := true }
     false ≠ (s.lane 0).drawer.dsense ∧ (decide (false = (s.lane 0).drawer.openHigh)) = (decide ((s.lane 0).drawer.st = .opened))) ∧
    ((withDrawer (drawerIn .settling)).lane 0).drawer.st = .settling ∧ (State.reset.lane 0).run ≠ .running ∧
    (let s := at_ 60000 (withDrawer { drawerIn .opened with openTimer := .running 0 0 })
     (s.lane 0).drawer.st = .opened ∧ (s.lane 0).drawer.openTimer = .running 0 0 ∧ (s.lane 0).drawer.active.alarm ≠ 0 ∧
       (s.lane 0).drawer.active.alarm * 1000 ≤ 0 + (s.elapsed - 0)) := by decide +kernel

/-- SensorAndAlarmEvents, at a pass end: an open drawer whose timer runs or is held, and a pass that changes the lock position or
keeps it. -/
theorem witness_alarm_pause :
    let s := fun timer => at_ 4 (part { shiftLane with
      drawer := { drawerIn .opened with openTimer := timer }, cfg := { rows := 8, cols := 16, pressCount := 1 }, lock := .inTransit })
    (∀ timer ∈ [OpenTimer.running 3 1, .held 3], passDue (s timer) 0 = true ∧ ((s timer).lane 0).drawer.st = .opened ∧
      ((s timer).lane 0).drawer.openTimer = timer) ∧
    after (.samplePassEnd 0 (closedSet [113])) (s (.held 3)) (fun t => decide ((t.lane 0).lock ≠ .inTransit)) = true ∧
    after (.samplePassEnd 0 0) (s (.held 3)) (fun t => decide ((t.lane 0).lock = .inTransit)) = true := by decide +kernel

/-- InhibitAbortsEveryKick: four kicking lanes of headroom 2, 1 (the first in the order), 0 and 100, and INH_N asserted already. -/
theorem witness_inhibit_room :
    let lane := fun n => { filled .running 100 100 n with drawer := { drawerIn .kickPulse with tries := 1, kick := true } }
    let s : State := { State.reset with lanes := #v[lane 98, lane 99, lane 100, lane 0] }
    (∀ l, (s.lane l).run = .running ∧ (s.lane l).drawer.st = .kickPulse) ∧ s.inhibit = false ∧
      headroom s 0 = 2 ∧ headroom s 1 = 1 ∧ [1, 0].head? = some (1 : LaneId) ∧ headroom s 2 = 0 ∧ 3 < headroom s 3 ∧
      ({ s with inhibit := true } : State).inhibit = true := by decide +kernel

/-- InhibitAbortsEveryKick: a kicking lane, and lanes that do not kick. -/
theorem witness_inhibit :
    let s := withDrawer { drawerIn .kickWait with tries := 1 }
    s.inhibit = false ∧ (s.lane 0).run = .running ∧ (s.lane 0).drawer.st = .kickWait ∧ (s.lane 1).run ≠ .running := by decide +kernel

/-- DrawerConfigStagedOrActive: undefined polarity, a drawer in OPEN with a measurement in progress, READY, and RUNNING with the polarity kept. -/
theorem witness_drawerConfig :
    let body := fun polarity : Byte => ([0, 150, 100, 0, 2, 60, 0, polarity, 20, 1] : List Byte)
    (body 0).length = 10 ∧ (body 0).head? = some (laneByte 0) ∧ 2 ≤ u8 (body 2) 7 ∧ u8 (body 1) 7 ≤ 1 ∧ u8 (body 1) 9 ≤ 1 ∧
      (let s := withDrawer { drawerIn .opened with measure := some 0 }
       serves s = true ∧ (s.lane 0).run = .running ∧ (s.lane 0).drawer.measure = some 0) ∧
      (State.reset.lane 0).run = .ready ∧ (laneUp.drawer.measure = none ∧ laneUp.drawer.openHigh = decide (u8 (body 0) 7 = 0)) ∧
      (clampTiming {} = {}) := by decide +kernel

/-- DrawerConfigStagedOrActive, a running lane: a new polarity whose reading differs from the drawer's and one whose reading agrees,
and the polarity kept with the measurement short of a debounce time of 20 ms, and at it. -/
theorem witness_drawerConfig_measure :
    let body := fun polarity : Byte => ([0, 150, 100, 0, 2, 60, 0, polarity, 20, 1] : List Byte)
    let s := fun now st => at_ now (withDrawer { drawerIn st with measure := some 3, debounce := 100 })
    (∀ st ∈ [DrawerState.shut, .opened], serves (s 5 st) = true ∧ ((s 5 st).lane 0).run = .running ∧ u8 (body 1) 9 ≤ 1 ∧
      ((s 5 st).lane 0).drawer.openHigh ≠ decide (u8 (body 1) 7 = 0) ∧
      ((s 5 st).lane 0).drawer.openHigh = decide (u8 (body 0) 7 = 0) ∧ ((s 5 st).lane 0).drawer.measure = some 3) ∧
    decide (((s 5 .shut).lane 0).drawer.dsense = false) ≠ decide (DrawerState.shut = .opened) ∧
    ¬decide (((s 5 .opened).lane 0).drawer.dsense = false) ≠ decide (DrawerState.opened = .opened) ∧
    (s 22 .shut).elapsed < 3 + max 5 (min (u8 (body 0) 8) 100) ∧ 3 + max 5 (min (u8 (body 0) 8) 100) ≤ (s 23 .shut).elapsed := by
  decide +kernel

/-- StatusReportsAndMarks, AckClearsOnlyReported, AttnMaskReplacesEnables and CountersLatchedAndCleared: masks at their limits, lanes
of no scope, and bodies too short and too long. -/
theorem witness_masks :
    serves (flagged 0x08) = true ∧ (0x7F : Byte).toNat < 128 ∧ 128 ≤ (0x80 : Byte).toNat ∧ (3 : Byte).toNat < 4 ∧ 4 ≤ (4 : Byte).toNat ∧
      (15 : Byte).toNat < 16 ∧ 16 ≤ (16 : Byte).toNat ∧
      (4 ≤ (254 : Byte).toNat ∧ (254 : Byte) ≠ 0xFF ∧ (3 : Byte).toNat < 4 ∧ ([] : List Byte).length + 1 ≠ 2 ∧
        ([0] : List Byte).length + 1 ≠ 1 ∧ ([] : List Byte).length ≠ 1) := by decide +kernel

/-- CountersLatchedAndCleared: a counter and its place. -/
theorem witness_counter_place : (Counter.recordsLost, (8 : Fin 12)) ∈ counterPlaces := by decide

/-- CountersReadLatchedOrLive: a full latch and an empty one. -/
theorem witness_latch :
    ((part { laneUp with counterLatch := some { time := 1, values := Vector.replicate 12 3 } }).lane 0).counterLatch =
        some { time := 1, values := Vector.replicate 12 3 } ∧ ((part laneUp).lane 0).counterLatch = none := by decide +kernel

/-- LockedFaultAndLatchKept: a locked record and a full latch, at an event of the lane, and at the request that each list alone
leaves out. -/
theorem witness_locked :
    let s := part { laneUp with
      fault := { locked := true, kind := .ghost, further := 255 }, counterLatch := some { time := 1, values := Vector.replicate 12 3 } }
    (clearsFault (.openTimerExpiry 0) = false ∧ emptiesLatch (.openTimerExpiry 0) = false ∧
      clearsFault (.readCounters [0]) = false ∧ emptiesLatch (.clearFault [0]) = false) ∧
    (s.lane 0).fault.locked = true ∧ (s.lane 0).counterLatch = some { time := 1, values := Vector.replicate 12 3 } ∧
      ∀ i, ∃ t, exec i s = .next t :=
  ⟨by decide, by decide +kernel, by decide +kernel, fun _ => exec_answers _ _⟩

/-- Lane 0 running in the middle of its work: a key held, a stored record, a code seen, a fault locked and a drawer open. -/
def busy : State :=
  settle (at_ 500 (part { laneUp with
    keys := (Vector.replicate 128 KeyState.up).set 3 .down, held := [heldNormal 3 400]
    queue := [{ body := .laneStart, stamp := 5 }], recent := [{ code := codeX, port := .A, time := 9 }]
    fault := { locked := true, kind := .ghost, source := .keyboard, further := 255 }
    drawer := { drawerIn .opened with openTimer := .running 0 100 }, portA := collected portUp codeX }))

/-- Every step from a state answers a next state. -/
theorem step_answers (s : State) : ∃ t, step s = .next t := by
  unfold step
  split
  · exact ⟨_, rfl⟩
  · exact exec_answers _ _

/-- StoreLawKept. -/
theorem witness_storeLaw : StoreLaw busy ∧ ∃ t, step busy = .next t := ⟨by unfold StoreLaw; decide +kernel, step_answers _⟩
/-- HoldAndAttnLawKept, its second clause at a READY lane and below the margin. -/
theorem witness_outputLaw :
    (HighLaw busy ∧ OutputLaw busy ∧ (busy.lane 1).run ≠ .running ∧ ∃ t, step busy = .next t) ∧
      (let s := settle (part { filled .running 64 256 255 with storeHigh := true })
       HighLaw s ∧ OutputLaw s ∧ headroom s 0 < (s.lane 0).cfg.margin) :=
  ⟨⟨by unfold HighLaw; decide +kernel, by unfold OutputLaw HoldRight; decide +kernel, by decide +kernel, step_answers _⟩,
    by unfold HighLaw; decide +kernel, by unfold OutputLaw HoldRight; decide +kernel, by decide +kernel⟩
/-- DrawerLawKept. -/
theorem witness_drawerLaw : DrawerLaw busy ∧ ∃ t, step busy = .next t :=
  ⟨by unfold DrawerLaw DrawerRight; decide +kernel, step_answers _⟩
/-- ReadyLawKept, with a row in its turn. -/
theorem witness_rowLaw :
    let s := at_ 4 (part { laneUp with rowTurn := some 2 })
    RowLaw s ∧ (s.lane 0).rowTurn = some 2 ∧ ∃ t, step s = .next t := by
  refine ⟨fun l r h => ?_, by decide +kernel, step_answers _⟩
  revert h
  match l with
  | 0 => intro h; cases h; decide +kernel
  | 1 => intro h; cases h
  | 2 => intro h; cases h
  | 3 => intro h; cases h
/-- ReadyLawKept and HeldKeysLawKept. -/
theorem witness_heldLaw : ReadyLaw busy ∧ HeldLaw busy ∧ ∃ t, step busy = .next t :=
  ⟨by unfold ReadyLaw PortAtRest; decide +kernel, by unfold HeldLaw; decide +kernel, step_answers _⟩
/-- StoredValueLawsKept. -/
theorem witness_storedLaws : RecentLaw busy ∧ FaultLaw busy ∧ SizeLaw busy ∧ RangeLaw busy ∧ ∃ t, step busy = .next t :=
  ⟨by unfold RecentLaw; decide +kernel, by unfold FaultLaw; decide +kernel, by unfold SizeLaw PortFits; decide +kernel,
    by unfold RangeLaw LaneInRange PortInRange TimingInRange SymInRange; decide +kernel, step_answers _⟩
/-- LaneEventsStayInTheirLane. -/
theorem witness_laneEvents : laneOf (.growthReport 2) = some 2 ∧ (1 : LaneId) ≠ 2 ∧ ∃ t, exec (.growthReport 2) busy = .next t :=
  ⟨rfl, by decide, exec_answers _ _⟩

end Sys2Proof.Tests
end

section
/-! PROOFS. Work inside one lane, said once: what every event of a lane keeps, whatever property of the part it is. An event of a
lane is made of two moves, a change of the lane's own section and the admission of a record; a property that these two keep is
kept by every press, scan, reply, drawer movement and pass end of that lane. -/

namespace Sys2Proof.Machine

/-! ### The two moves -/

/-- `P` is kept by work in lane `l` that leaves the view `w` of its section as it is. -/
structure KeptByWork {α : Type} (l : LaneId) (w : Lane → α) (P : State → Prop) : Prop where
  change : ∀ (s : State) (f : Lane → Lane), w (f (s.lane l)) = w (s.lane l) → P s → P (s.modLane l f)
  admission : ∀ (s : State) (r : Rec), P s → P (admitRecord l r s)

/-- A view that reads at most the lane state, the configuration and the row in its turn. -/
def FrameView {α : Type} (w : Lane → α) : Prop :=
  ∀ L L' : Lane, L'.run = L.run → L'.cfg = L.cfg → L'.rowTurn = L.rowTurn → w L' = w L

/-- A view that reads at most what a `FrameView` reads, the lock position and the drawer. -/
def PassView {α : Type} (w : Lane → α) : Prop :=
  ∀ L L' : Lane, L'.run = L.run → L'.cfg = L.cfg → L'.rowTurn = L.rowTurn → L'.lock = L.lock → L'.drawer = L.drawer → w L' = w L

theorem FrameView.passView {α : Type} {w : Lane → α} (hw : FrameView w) : PassView w :=
  fun L L' hrun hcfg hrow _ _ => hw L L' hrun hcfg hrow

/-- A hand-off slot emptied by the Code Filter, whatever it decides, is out of a `PassView`. -/
theorem PassView.suppressLane {α : Type} {w : Lane → α} (hw : PassView w) (p : PortId) (r : SlotRecord) (cross : Bool) (L : Lane) :
    w (suppressLane p r cross L) = w L := by
  cases p <;> exact hw L _ rfl rfl rfl rfl rfl

theorem PassView.acceptLane {α : Type} {w : Lane → α} (hw : PassView w) (p : PortId) (r : SlotRecord) (L : Lane) :
    w (acceptLane p r L) = w L := by
  cases p <;> exact hw L _ rfl rfl rfl rfl rfl

theorem PassView.rejectLane {α : Type} {w : Lane → α} (hw : PassView w) (p : PortId) (L : Lane) :
    w (rejectLane p L) = w L := by
  cases p <;> exact hw L _ rfl rfl rfl rfl rfl

/-- A lane that does not run makes no attempt (R96). -/
theorem attemptChain_of_not_running {l : LaneId} {s : State} (h : (s.lane l).run ≠ .running) (delayed : Bool) :
    attemptChain l delayed s = s := by
  simp [attemptChain, attempt, h]

namespace KeptByWork

variable {α : Type} {l : LaneId} {w : Lane → α} {P : State → Prop}

/-! ### Offers, flags, counts and faults -/

theorem lose (hP : KeptByWork l w P) (hw : PassView w) {s : State} (h : P s) : P (lose l s) :=
  hP.change s loseLane (hw _ _ rfl rfl rfl rfl rfl) h

theorem offer (hP : KeptByWork l w P) (hw : PassView w) (b : RecBody) (f : RecFlags) {s : State} (h : P s) :
    P (offer l b f s) := by
  obtain ⟨_, e⟩ | ⟨_, e⟩ := offer_cases l b f s
  · exact e ▸ hP.admission _ _ h
  · exact e ▸ hP.lose hw h

theorem raise (hP : KeptByWork l w P) (hw : PassView w) (f : Byte) {s : State} (h : P s) : P (raise l f s) :=
  hP.change s (raiseLane f) (hw _ _ rfl rfl rfl rfl rfl) h

theorem count (hP : KeptByWork l w P) (hw : PassView w) (c : Counter) {s : State} (h : P s) : P (count l c s) :=
  hP.change s (countLane c) (hw _ _ rfl rfl rfl rfl rfl) h

theorem offerFault (hP : KeptByWork l w P) (hw : PassView w) (k : FaultKind) (src : FaultSource) (n : Nat) {s : State}
    (h : P s) : P (offerFault l k src n s) :=
  hP.change s _ (hw _ _ rfl rfl rfl rfl rfl) h

theorem modPort (hP : KeptByWork l w P) (hw : PassView w) (p : PortId) (f : Port → Port) {s : State} (h : P s) :
    P (s.modPort l p f) :=
  hP.change s _ (hw _ _ (by simp) (by simp) (by simp) (by simp) (by simp)) h

theorem modDrawer (hP : KeptByWork l w P) (hw : FrameView w) (f : Drawer → Drawer) {s : State} (h : P s) :
    P (s.modDrawer l f) :=
  hP.change s _ (hw _ _ rfl rfl rfl) h

/-! ### Screening attempts (R97) -/

theorem attemptRecord (hP : KeptByWork l w P) (hw : PassView w) (p : PortId) (r : SlotRecord) (delayed : Bool) {s : State}
    (h : P s) : P (attemptRecord l p r delayed s).1 := by
  unfold Machine.attemptRecord
  split
  case h_1 cross _ => exact hP.change s _ (hw.suppressLane p r cross _) h
  case h_2 index _ =>
    split
    · exact hP.change _ (acceptLane p r) (hw.acceptLane p r _) (hP.admission _ _ h)
    · exact h
  case h_3 reason index _ =>
    split
    · exact hP.change _ (rejectLane p) (hw.rejectLane p _) (hP.admission _ _ h)
    · exact h

theorem attempt (hP : KeptByWork l w P) (hw : PassView w) (delayed : Bool) {s : State} (h : P s) :
    P (attempt l delayed s).1 := by
  unfold Machine.attempt
  split
  · exact h
  · split
    · exact h
    · exact hP.attemptRecord hw _ _ _ h

theorem attemptChain (hP : KeptByWork l w P) (hw : PassView w) (delayed : Bool) {s : State} (h : P s) :
    P (attemptChain l delayed s) := by
  unfold Machine.attemptChain
  split
  · exact hP.attempt hw _ (hP.attempt hw _ h)
  · exact hP.attempt hw _ h

theorem clearRecent (hP : KeptByWork l w P) (hw : PassView w) {s : State} (h : P s) : P (clearRecent l s) :=
  hP.attemptChain hw true (hP.change s _ (hw _ _ rfl rfl rfl rfl rfl) h)

/-! ### Keys and the walk (R20, R34, R44, R47) -/

theorem localKick (hP : KeptByWork l w P) (hw : FrameView w) {s : State} (h : P s) : P (localKick l s) := by
  unfold Machine.localKick
  split
  · exact h
  · exact hP.modDrawer hw _ h

theorem pressKey (hP : KeptByWork l w P) (hw : PassView w) (hk : ∀ t, P t → P (Machine.localKick l t)) (p : Nat) {s : State}
    (h : P s) : P (pressKey l p s) := by
  have h1 := hP.change s (fun L => { L with held := L.held ++ [keyEntry s.elapsed (s.lane l) p] })
    (hw _ _ rfl rfl rfl rfl rfl) h
  have h2 := hP.count hw .keysAccepted (hP.offer hw
    (.keyDown p (keyEntry s.elapsed (s.lane l) p).code (keyEntry s.elapsed (s.lane l) p).cls)
    { layer := (keyEntry s.elapsed (s.lane l) p).layer } h1)
  have h3 := hP.change _ (fun L => { L with repeating := repeatAtPress L (keyEntry s.elapsed (s.lane l) p) })
    (hw _ _ rfl rfl rfl rfl rfl) h2
  unfold Machine.pressKey classAction
  dsimp only
  split
  case h_1 =>
    split
    · exact hk _ h3
    · exact h3
  case h_2 => exact hP.clearRecent hw h3
  all_goals exact h3

theorem press (hP : KeptByWork l w P) (hw : PassView w) (hk : ∀ t, P t → P (Machine.localKick l t)) (p : Nat) {s : State}
    (h : P s) : P (press l p s) := by
  unfold Machine.press
  split
  · exact hP.pressKey hw hk p h
  · unfold pressLock
    exact hP.change s _ (hw _ _ rfl rfl rfl rfl rfl) h

theorem release (hP : KeptByWork l w P) (hw : PassView w) (p : Nat) {s : State} (h : P s) : P (release l p s) := by
  unfold Machine.release
  split
  · exact h
  · refine hP.change _ _ (hw _ _ rfl rfl rfl rfl rfl) ?_
    split
    · exact hP.offer hw _ _ h
    · exact h

theorem visit (hP : KeptByWork l w P) (hw : PassView w) (hk : ∀ t, P t → P (Machine.localKick l t)) (closed : BitVec 128)
    (p : Nat) {s : State} (h : P s) : P (visit l closed s p) := by
  unfold Machine.visit
  dsimp only
  split
  · exact h
  · have h1 := hP.change s (fun L => { L with keys := L.keys.setIfInBounds p (walkStep (s.lane l) closed p).1 })
      (hw _ _ rfl rfl rfl rfl rfl) h
    unfold handOver
    split
    · exact h1
    · exact hP.press hw hk p h1
    · exact hP.release hw p h1
    · exact hP.count hw _ h1

theorem walk (hP : KeptByWork l w P) (hw : PassView w) (hk : ∀ t, P t → P (Machine.localKick l t)) (closed : BitVec 128)
    {s : State} (h : P s) : P (walk l closed s) := by
  have key : ∀ (ps : List Nat) {s : State}, P s → P (ps.foldl (Machine.visit l closed) s) := by
    intro ps
    induction ps with
    | nil => exact fun h => h
    | cons p ps ih => exact fun h => ih (hP.visit hw hk closed p h)
  exact key _ h

theorem ghostAnalysis (hP : KeptByWork l w P) (hw : PassView w) (closed : BitVec 128) {s : State} (h : P s) :
    P (ghostAnalysis l closed s) := by
  unfold Machine.ghostAnalysis
  dsimp only
  split
  · exact hP.change s _ (hw _ _ rfl rfl rfl rfl rfl) h
  · split
    · exact h
    · exact hP.offerFault hw _ _ _ (hP.count hw _ (hP.change s _ (hw _ _ rfl rfl rfl rfl rfl) h))

/-! ### The end-of-pass notice (R35, R49, R51, R52) -/

theorem defineLock (hP : KeptByWork l w P) (hw : PassView w) (new : LockPos) {s : State} (h : P s) : P (defineLock l new s) := by
  unfold Machine.defineLock
  split
  · split
    · exact h
    · exact hP.change _ _ (hw _ _ rfl rfl rfl rfl rfl) (hP.raise hw _ (hP.offer hw _ _ h))
  all_goals exact h

theorem lockNotice (hP : KeptByWork l w P) (hw : FrameView w) {s : State} (h : P s) : P (lockNotice l s) := by
  have h1 := hP.defineLock hw.passView (computeLock (s.lane l))
    (hP.change s (fun L => { L with lock := computeLock (s.lane l) }) (hw _ _ rfl rfl rfl) h)
  unfold Machine.lockNotice
  dsimp only
  split
  · exact h1
  · exact hP.change _ _ (hw _ _ rfl rfl rfl) (hP.attemptChain hw.passView true h1)

theorem repeatNotice (hP : KeptByWork l w P) (hw : PassView w) (high : Bool) {s : State} (h : P s) :
    P (repeatNotice l high s) := by
  obtain e | ⟨r, k, _, _, _, e⟩ := repeatNotice_cases l high s
  · rwa [e]
  · rw [e, repeatFalls]
    have h1 := hP.change s (fun L => { L with repeating := some { r with number := min (r.number + 1) 255,
                                                                         due := r.due + 10 * L.cfg.typeInterval } })
      (hw _ _ rfl rfl rfl rfl rfl) h
    split
    · exact hP.count hw _ h1
    · exact hP.offer hw _ _ h1

theorem passWork (hP : KeptByWork l w P) (hw : FrameView w) (closed : BitVec 128) {s : State} (h : P s) :
    P (passWork l closed s) := by
  have h1 := hP.walk hw.passView (fun _ ht => hP.localKick hw ht) closed (hP.ghostAnalysis hw.passView closed h)
  unfold Machine.passWork notice
  exact hP.repeatNotice hw.passView _ (hP.lockNotice hw h1)

/-! ### A scanner port (R60 to R71, R84 to R88) -/

theorem appendChar (hP : KeptByWork l w P) (hw : PassView w) (p : PortId) (c : ScanChar) {s : State} (h : P s) :
    P (appendChar l p c s) := by
  have h1 := hP.modPort hw p
    (appendByte s.elapsed (charValue (s.port l p).cfg c) (charFault (s.port l p).cfg c).isSome) h
  unfold Machine.appendChar
  dsimp only
  split
  · exact h1
  · split
    · exact h1
    · exact hP.offerFault hw _ _ _ h1

theorem deliverReply (hP : KeptByWork l w P) (hw : PassView w) (p : PortId) (code : List Byte) (damaged : Bool) {s : State}
    (h : P s) : P (deliverReply l p code damaged s) := by
  have taken : P (takeReply l p code damaged s) := hP.modPort hw p _ (hP.raise hw _ (hP.offer hw _ _ h))
  unfold Machine.deliverReply
  split
  · exact taken
  · exact taken
  · exact hP.modPort hw p _ (hP.offerFault hw _ _ _ h)
  · exact hP.offerFault hw _ _ _ h

theorem enterSlot (hP : KeptByWork l w P) (hw : PassView w) (p : PortId) (code : List Byte) (damaged : Bool) {s : State}
    (h : P s) : P (enterSlot l p code damaged s) := by
  unfold Machine.enterSlot
  split
  · exact hP.lose hw (hP.offerFault hw _ _ _ h)
  · have h1 := hP.modPort hw p
      (fun P => { P with slot := some { code := code, damaged := damaged, time := s.clock } }) h
    dsimp only
    split
    · exact hP.attemptChain hw _ h1
    · exact h1

theorem complete (hP : KeptByWork l w P) (hw : PassView w) (p : PortId) {s : State} (h : P s) : P (complete l p s) := by
  have h1 := hP.modPort hw p toHunt h
  unfold Machine.complete
  dsimp only
  split
  · exact hP.deliverReply hw p _ _ h1
  · exact hP.enterSlot hw p _ _ h1

theorem huntChar (hP : KeptByWork l w P) (hw : PassView w) (p : PortId) (c : ScanChar) {s : State} (h : P s) :
    P (huntChar l p c s) := by
  unfold Machine.huntChar
  dsimp only
  split
  · split
    · exact hP.modPort hw p _ h
    · exact h
  · split
    · exact h
    · exact hP.appendChar hw p c (hP.modPort hw p _ h)

theorem assemblyChar (hP : KeptByWork l w P) (hw : PassView w) (p : PortId) (c : ScanChar) {s : State} (h : P s) :
    P (assemblyChar l p c s) := by
  unfold Machine.assemblyChar
  dsimp only
  split
  · split
    · exact hP.modPort hw p _ h
    · exact hP.complete hw p h
  · split
    · exact hP.modPort hw p _ (hP.offerFault hw _ _ _ h)
    · exact hP.appendChar hw p c h

theorem skipChar (hP : KeptByWork l w P) (hw : PassView w) (p : PortId) (c : ScanChar) {s : State} (h : P s) :
    P (skipChar l p c s) := by
  unfold Machine.skipChar
  split <;> exact hP.modPort hw p _ h

theorem receiveChar (hP : KeptByWork l w P) (hw : PassView w) (p : PortId) (c : ScanChar) {s : State} (h : P s) :
    P (receiveChar l p c s) := by
  have h1 := hP.modPort hw p (fun P => { P with charStart := false, charDrop := false }) h
  unfold Machine.receiveChar
  dsimp only
  split
  · exact h1
  · split
    · exact h1
    · exact hP.huntChar hw p c h1
    · exact hP.assemblyChar hw p c h1
    · exact hP.skipChar hw p c h1

theorem gapExpires (hP : KeptByWork l w P) (hw : PassView w) (p : PortId) {s : State} (h : P s) : P (gapExpires l p s) := by
  unfold Machine.gapExpires
  split
  · refine hP.modPort hw p _ ?_
    split
    · exact hP.offerFault hw _ _ _ h
    · exact h
  · exact h

theorem replyExpires (hP : KeptByWork l w P) (hw : PassView w) (p : PortId) {s : State} (h : P s) :
    P (replyExpires l p s) := by
  unfold Machine.replyExpires
  split
  · exact hP.modPort hw p _ (hP.raise hw _ (hP.offerFault hw _ _ _ (hP.offer hw _ _ h)))
  · exact h

theorem takeGrowth (hP : KeptByWork l w P) (hw : PassView w) {s : State} (h : P s) : P (takeGrowth l s) := by
  unfold Machine.takeGrowth
  split
  · exact hP.attemptChain hw true (hP.change s _ (hw _ _ rfl rfl rfl rfl rfl) h)
  · exact h

/-! ### The drawer (R145 to R156) -/

theorem newDrawer (hP : KeptByWork l w P) (hw : FrameView w) (f : Lane → Drawer) {s : State} (h : P s) :
    P (s.modLane l fun L => { L with drawer := f L }) :=
  hP.change s _ (hw _ _ rfl rfl rfl) h

theorem openAtStart (hP : KeptByWork l w P) (hw : FrameView w) {s : State} (h : P s) : P (openAtStart l s) := by
  unfold Machine.openAtStart
  exact hP.newDrawer hw _ (hP.offer hw.passView _ _ h)

theorem openCommanded (hP : KeptByWork l w P) (hw : FrameView w) {s : State} (h : P s) : P (openCommanded l s) := by
  unfold Machine.openCommanded
  exact hP.newDrawer hw _ (hP.count hw.passView _ (hP.offer hw.passView _ _ h))

theorem openUncommanded (hP : KeptByWork l w P) (hw : FrameView w) {s : State} (h : P s) : P (openUncommanded l s) := by
  have h1 := hP.count hw.passView .drawerOpens (hP.offer hw.passView (.drawerOpen .uncommanded 0) {} h)
  unfold Machine.openUncommanded
  exact hP.newDrawer hw _ (hP.raise hw.passView _ (hP.count hw.passView _ h1))

theorem closeDrawer (hP : KeptByWork l w P) (hw : FrameView w) {s : State} (h : P s) : P (closeDrawer l s) := by
  unfold Machine.closeDrawer
  exact hP.modDrawer hw _ (hP.offer hw.passView _ _ h)

theorem debounced (hP : KeptByWork l w P) (hw : FrameView w) {s : State} (h : P s) : P (debounced l s) := by
  have h1 := hP.modDrawer hw endMeasure h
  unfold Machine.debounced
  dsimp only
  split
  · exact hP.modDrawer hw _ h1
  · exact hP.openAtStart hw h1
  · exact hP.openUncommanded hw h1
  · exact hP.openCommanded hw h1
  · exact hP.openCommanded hw h1
  · exact hP.closeDrawer hw h1
  · exact hP.closeDrawer hw h1
  all_goals exact h1

theorem takeDebounced (hP : KeptByWork l w P) (hw : FrameView w) {s : State} (h : P s) : P (takeDebounced l s) := by
  unfold Machine.takeDebounced
  split
  · exact hP.debounced hw h
  · exact h

theorem pulseExpires (hP : KeptByWork l w P) (hw : FrameView w) {s : State} (h : P s) : P (pulseExpires l s) := by
  unfold Machine.pulseExpires
  split
  · exact hP.modDrawer hw _ h
  · exact h

theorem retryExpires (hP : KeptByWork l w P) (hw : FrameView w) {s : State} (h : P s) : P (retryExpires l s) := by
  unfold Machine.retryExpires
  dsimp only
  split
  · exact h
  · split
    · exact hP.modDrawer hw _ h
    · exact hP.raise hw.passView _ (hP.count hw.passView _ (hP.offerFault hw.passView _ _ _
        (hP.offer hw.passView _ _ (hP.modDrawer hw _ h))))

theorem openExpires (hP : KeptByWork l w P) (hw : FrameView w) {s : State} (h : P s) : P (openExpires l s) := by
  unfold Machine.openExpires
  split
  · exact hP.modDrawer hw _ (hP.raise hw.passView _ (hP.offer hw.passView _ _ h))
  · exact h

theorem abortKick (hP : KeptByWork l w P) (hw : FrameView w) {s : State} (h : P s) : P (abortKick l s) := by
  unfold Machine.abortKick
  dsimp only
  split
  · exact hP.modDrawer hw _ (hP.raise hw.passView _ (hP.offer hw.passView _ _ (hP.modDrawer hw _ h)))
  · exact h

theorem senseLevel (hP : KeptByWork l w P) (hw : FrameView w) (high : Bool) {s : State} (h : P s) :
    P (senseLevel l high s) := by
  refine hP.change s _ ?_ h
  split
  · rfl
  · exact hw _ _ rfl rfl rfl

end KeptByWork
end Sys2Proof.Machine
end

section
/-! PROOFS. Requests and events as the system line brings them: every frame is one request of the dispatcher, judged by its
length and scope and answered, and a run of characters is a sequence of bad frames and of frames served. -/

namespace Sys2Proof.Machine

/-! ### Changes of one lane section -/

/-- Two changes of one lane section are one. -/
theorem State.modLane_modLane (s : State) (l : LaneId) (f g : Lane → Lane) :
    (s.modLane l f).modLane l g = s.modLane l fun L => g (f L) := by
  refine State.ext_lanes (fun k => ?_) rfl
  by_cases h : k = l <;> simp [h]

theorem State.modLane_congr {s : State} {l : LaneId} {f g : Lane → Lane} (h : f (s.lane l) = g (s.lane l)) :
    s.modLane l f = s.modLane l g := by
  simp only [State.modLane, h]

theorem State.modLane_self (s : State) (l : LaneId) : s.modLane l id = s := by
  refine State.ext_lanes (fun k => ?_) rfl
  by_cases h : k = l <;> simp [h]

/-! ### Requests served -/

@[simp] theorem lane_received (s : State) (l : LaneId) : (received s).lane l = s.lane l := rfl
@[simp] theorem received_elapsed (s : State) : (received s).elapsed = s.elapsed := rfl
@[simp] theorem received_clock (s : State) : (received s).clock = s.clock := rfl

@[simp] theorem lane_replied (kind : Byte) (body reply : List Byte) (s : State) (l : LaneId) :
    (replied kind body reply s).lane l = settleLane (s.lane l) :=
  lane_settle _ l

/-- A request of a lane is served by its block, or refused (R188). -/
theorem withLane_cases (n : Nat) (serve : LaneId → Request) (body : List Byte) (s : State) :
    (∃ l, withLane n serve body s = serve l body s) ∨ ∃ r, withLane n serve body s = refuse r s := by
  unfold withLane
  split
  · exact .inr ⟨_, rfl⟩
  · split
    · split
      · exact .inl ⟨_, rfl⟩
      · exact .inr ⟨_, rfl⟩
    · exact .inr ⟨_, rfl⟩

/-- A request of a lane or the device is served by its block, or refused (R188). -/
theorem withScope_cases (n : Nat) (serve : Scope → Request) (body : List Byte) (s : State) :
    (∃ scope, withScope n serve body s = serve scope body s) ∨ ∃ r, withScope n serve body s = refuse r s := by
  unfold withScope
  split
  · exact .inr ⟨_, rfl⟩
  · split
    · split
      · exact .inl ⟨_, rfl⟩
      · exact .inr ⟨_, rfl⟩
    · split
      · split
        · exact .inl ⟨_, rfl⟩
        · exact .inr ⟨_, rfl⟩
      · exact .inr ⟨_, rfl⟩

theorem withLength_cases (n : Nat) (serve : Request) (body : List Byte) (s : State) :
    withLength n serve body s = serve body s ∨ ∃ r, withLength n serve body s = refuse r s := by
  unfold withLength
  split
  · exact .inl rfl
  · exact .inr ⟨_, rfl⟩

/-- A request of a lane with a body of its length, on a part that serves it: what its block does, and its reply. -/
theorem frameCompletes_lane {s : State} (h : Serves s) {n : Nat} (serve : LaneId → Request) {kind : Byte} (hk : kind.toNat < 0x80)
    {l : LaneId} {body : List Byte} (hlen : body.length = n) (hlane : body.head? = some (laneByte l)) :
    done (frameCompletes (withLane n serve) kind body s) =
      .next (replied kind body (serve l body (received s)).2 (serve l body (received s)).1) := by
  obtain ⟨rest, rfl⟩ : ∃ rest, body = byteOf l.val :: rest := List.head?_eq_some_iff.mp hlane
  rw [done, frameCompletes_serves h _ hk, withLane_lane serve l (by simpa using hlen)]

/-! ### Every block of the dispatcher, and every frame -/

/-- The blocks that the dispatcher knows, the answer to an unknown kind last (Table 11-3). -/
def servedBlocks (outside : Outside) : List Request :=
  [serveIdentify, serveGetTime, serveSetTime, serveResetDevice, serveLaneConfig, serveStart, serveStop, serveResetLane,
   serveLinesSet, serveLinesDir, serveLinesRead outside, serveKeymapWrite, serveKeymapRead, servePortConfig,
   serveScannerSend, serveFilterConfig, serveSymbologyWrite, serveForget, serveFetch, servePurge, serveDrawerConfig,
   serveKick, serveStatus, serveAckFlags, serveAttnMask, serveClearFault, serveLatchCounters, serveReadCounters,
   serveClearCounters, serveUnknown]

/-- What holds of both branches of a choice holds of the choice. -/
theorem ite_of_both {α : Type} {P : α → Prop} {c : Prop} [Decidable c] {a b : α} (ha : P a) (hb : P b) :
    P (if c then a else b) := by
  split <;> assumption

/-- Whatever the kind byte, the dispatcher chooses one of its blocks (R182). -/
theorem requestOf_mem (outside : Outside) (kind : Byte) : requestOf outside kind ∈ servedBlocks outside := by
  unfold requestOf
  repeat' apply ite_of_both (P := (· ∈ servedBlocks outside))
  all_goals simp only [servedBlocks, List.mem_cons, true_or, or_true]

/-- Every command that is a frame is the request of its kind, received (R179, R181). -/
theorem exec_frame {i : Instr} {kind : Byte} {body : List Byte} (h : requestFrame i = some (kind, body)) (s : State) :
    ∃ outside, exec i s = done (frameCompletes (requestOf outside kind) kind body s) := by
  cases i <;> cases h
  case linesRead frame => exact ⟨frame.outside, rfl⟩
  case unknownKind frame => exact ⟨frame.outside, rfl⟩
  case inboundOverrun frame => exact ⟨frame.outside, rfl⟩
  case frameDiscardedAtReset frame => exact ⟨frame.outside, rfl⟩
  all_goals exact ⟨Vector.replicate 4 ⟨0, 0, 0⟩, rfl⟩

/-- A property that a bad frame, a served frame and a move of the receiver keep is kept by a hunt through characters (R179). -/
theorem hunt_keeps {P : State → Prop} {outside : Outside} (move : ∀ s rx, P s → P { s with rx := rx })
    (bad : ∀ s, P s → P (badFrameCounted s))
    (good : ∀ kind body s, P s → P (settle (goodFrame (requestOf outside kind) kind body s))) :
    ∀ (fuel : Nat) (chars : List LineChar) (s : State), P s → P (hunt outside fuel chars s) := by
  intro fuel
  induction fuel with
  | zero => exact fun chars s h => move s .hunt h
  | succ fuel ih =>
    intro chars s h
    cases chars with
    | nil => exact move s .hunt h
    | cons c rest =>
      unfold hunt
      split
      · exact ih _ _ h
      · split
        · exact move _ _ h
        · exact ih _ _ (bad _ h)
        · exact ih _ _ (good _ _ _ h)

end Sys2Proof.Machine
end

section
/-! PROOFS. O14, O15 and O16: START, STOP and RESET_LANE. What each does to the lane section is said once, as an equation of lane
sections; STOP is the one that may also offer a record, after the losses of the slots it empties. -/

namespace Sys2Proof.Machine

open Sys2Proof.Claims

/-! ### The lane section at START, STOP and RESET_LANE -/

theorem startPort_eq (P : Port) : startPort P = startedPort P := by
  cases h : P.cfg.enabled <;> simp [startPort, startedPort, endExpectation, unmark, toHunt, toIgnoring, h]

/-- With no held key the lock position is IN_TRANSIT, or NONE where the keymap has no lock contact (R51). -/
theorem computeLock_of_held_nil {L : Lane} (h : L.held = []) :
    computeLock L = if hasLockContact L then .inTransit else .noLock := by
  cases h' : hasLockContact L <;> simp [computeLock, h, h']

theorem startLane_eq (now : Nat) (L : Lane) : startLane now L = startedLane now L := by
  simp only [startLane, computeLock_of_held_nil (L := clearKeymapUnit _) rfl, startPort_eq]
  rfl

theorem resetLane_eq (L : Lane) : resetLane L = clearedLane L := rfl

/-! ### START and RESET_LANE -/

/-- What START of a lane is answered, and does. -/
theorem exec_start {l : LaneId} {s : State} (hs : Serves s) :
    exec (.start [laneByte l]) s =
      if (s.lane l).run = .running then .next (replied 0x11 [laneByte l] [0x06] (received s))
      else .next (replied 0x11 [laneByte l] [0x00]
        (offer l .laneStart {} ((received s).modLane l (startLane s.elapsed)))) := by
  refine (frameCompletes_lane hs _ (kind := 0x11) (by decide) (body := [laneByte l]) rfl rfl).trans ?_
  by_cases hr : (s.lane l).run = .running <;> simp [hr, refuse, accept, resultByte]

/-- Settles O14. -/
theorem startOfReadyLane : Obligations.StartOfReadyLane := by
  intro l s hs
  have started : startLane s.elapsed = startedLane s.elapsed := funext (startLane_eq _)
  refine ⟨fun hr => ?_, fun hr => ⟨0x11, [laneByte l], rfl, ?_⟩⟩
  · rw [exec_start hs, hr, if_neg (by decide), started]
  · rw [exec_start hs, hr, if_pos rfl]

/-- Settles O16. -/
theorem resetLaneClearsLane : Obligations.ResetLaneClearsLane := by
  intro l s hs
  rw [← show resetLane = clearedLane from funext resetLane_eq]
  exact frameCompletes_lane hs _ (kind := 0x13) (by decide) (body := [laneByte l]) rfl rfl

/-! ### STOP: the losses, the halted lane, the abort -/

/-- A lane section that has counted n losses (R123). -/
def loseTimes (n : Nat) (L : Lane) : Lane :=
  { L with
    lost := if n = 0 then L.lost else min (L.lost + n) 255
    counters := L.counters.set 8 (L.counters[8] + BitVec.ofNat 32 n)
    sticky := if n = 0 then L.sticky else L.sticky ||| flagLoss
    reported := if n = 0 then L.reported else L.reported &&& ~~~flagLoss }

theorem loseTimes_zero (L : Lane) : loseTimes 0 L = L := by
  have h : L.counters.set 8 (L.counters[8] + BitVec.ofNat 32 0) = L.counters := by simp
  simp only [loseTimes, if_true, h]

theorem loseLane_loseTimes (n : Nat) (L : Lane) : loseLane (loseTimes n L) = loseTimes (n + 1) L := by
  have hlost : min ((if n = 0 then L.lost else min (L.lost + n) 255) + 1) 255 = min (L.lost + (n + 1)) 255 := by
    split <;> omega
  have hcount : (L.counters.set 8 (L.counters[8] + BitVec.ofNat 32 n)).set 8
      ((L.counters.set 8 (L.counters[8] + BitVec.ofNat 32 n))[8] + 1) =
      L.counters.set 8 (L.counters[8] + BitVec.ofNat 32 (n + 1)) := by
    simp [BitVec.ofNat_add, BitVec.add_assoc]
  have hsticky : (if n = 0 then L.sticky else L.sticky ||| flagLoss) ||| flagLoss = L.sticky ||| flagLoss := by
    split
    · rfl
    · rw [BitVec.or_assoc, BitVec.or_self]
  have hreported : (if n = 0 then L.reported else L.reported &&& ~~~flagLoss) &&& ~~~flagLoss = L.reported &&& ~~~flagLoss := by
    split
    · rfl
    · rw [BitVec.and_assoc, BitVec.and_self]
  simp only [loseLane, raiseLane, countLane, counterIndex, loseTimes, Nat.succ_ne_zero, if_false]
  simp_all

theorem loseTimes_loseTimes (m n : Nat) (L : Lane) : loseTimes m (loseTimes n L) = loseTimes (n + m) L := by
  induction m with
  | zero => exact loseTimes_zero _
  | succ m ih => rw [← loseLane_loseTimes, ih, loseLane_loseTimes, Nat.add_assoc]

/-- The loss of one slot that STOP empties, as a change of the lane section (R3, step 4). -/
theorem loseSlot_eq (l : LaneId) (p : PortId) (s : State) :
    loseSlot l p s = s.modLane l fun L => loseTimes (L.port p).slot.isSome.toNat L := by
  cases h : (s.lane l |>.port p).slot.isSome
  · rw [State.modLane_congr (g := id) (by simp [h, loseTimes_zero]), State.modLane_self]
    simp [loseSlot, State.port, h]
  · have e : loseLane (s.lane l) = loseTimes 1 (s.lane l) := by
      simpa only [loseTimes_zero] using loseLane_loseTimes 0 (s.lane l)
    rw [State.modLane_congr (g := loseLane) (by simp [h, e])]
    simp [loseSlot, State.port, h, lose]

/-- The hand-off slots that a lane holds. -/
def heldSlots (L : Lane) : Nat := L.portA.slot.isSome.toNat + L.portB.slot.isSome.toNat

/-- A lane section that STOP has halted, its losses counted and its kick output off, before an abort is offered (R3, steps 1 to 5). -/
def haltedLane (L : Lane) : Lane :=
  { loseTimes (heldSlots L) (haltKeys L) with
    portA := stoppedPort L.portA, portB := stoppedPort L.portB
    drawer := { L.drawer with kick := false, pulse := none, retry := none } }

/-- A lane section that STOP leaves (R3, steps 6 and 7). -/
def leaveRunning (L : Lane) : Lane := { L with run := .ready, drawer := stoppedDrawer L.drawer }

/-- STOP of a lane: it halts, an abort is offered if the drawer was in a kick, and the lane is READY (R3). -/
theorem stopLane_eq (l : LaneId) (s : State) :
    stopLane l s =
      (if kicking (s.lane l).drawer then offer l (.drawerAbort .stop (s.lane l).drawer.tries) {} (s.modLane l haltedLane)
        else s.modLane l haltedLane).modLane l leaveRunning := by
  have halts : ((loseSlot l .B (loseSlot l .A (s.modLane l haltKeys))).modLane l fun L =>
      { L with portA := stopPort L.portA, portB := stopPort L.portB }).modDrawer l
        (fun D => { D with kick := false, pulse := none, retry := none }) = s.modLane l haltedLane := by
    simp only [loseSlot_eq, State.modDrawer, State.modLane_modLane, loseTimes_loseTimes]
    rfl
  unfold stopLane
  dsimp only
  rw [halts]
  rfl

theorem leaveRunning_haltedLane (L : Lane) : leaveRunning (haltedLane L) = loseTimes (heldSlots L) (stoppedLane L) := rfl

theorem kicking_iff (D : Drawer) : kicking D = true ↔ D.st = .kickPulse ∨ D.st = .kickWait := by simp [kicking]

/-- STOP of a lane outside a kick: its losses, and the lane at rest. -/
theorem stopLane_of_not_kicking {l : LaneId} {s : State} (h : (s.lane l).drawer.st ≠ .kickPulse)
    (h' : (s.lane l).drawer.st ≠ .kickWait) :
    stopLane l s = s.modLane l fun L => loseTimes (heldSlots L) (stoppedLane L) := by
  have hk : kicking (s.lane l).drawer = false := by simp [kicking, h, h']
  simp only [stopLane_eq, hk, Bool.false_eq_true, if_false, State.modLane_modLane, leaveRunning_haltedLane]

@[simp] theorem haltedLane_cfg (L : Lane) : (haltedLane L).cfg = L.cfg := rfl
@[simp] theorem haltedLane_queue (L : Lane) : (haltedLane L).queue = L.queue := rfl

/-- The halted lane leaves every headroom as it was: STOP frees no slot. -/
theorem headroom_haltedLane (l k : LaneId) (s : State) : headroom (s.modLane l haltedLane) k = headroom s k := by
  refine headroom_congr (fun j => ?_) k
  by_cases e : j = l <;> simp [e]

/-- A DRAWER_ABORT holds one slot (Table 7-1). -/
theorem recordSlots_drawerAbort (c : AbortCause) (tries : Nat) : recordSlots (.drawerAbort c tries) = 1 := by
  simp [recordSlots, recordLength, recordBody, slotsFor, Config.slotBytes]

/-- STOP of a lane in a kick with no headroom: the abort is one more loss. -/
theorem stopLane_of_kicking_full {l : LaneId} {s : State} (h : (s.lane l).drawer.st = .kickPulse ∨ (s.lane l).drawer.st = .kickWait)
    (hroom : headroom s l = 0) :
    stopLane l s = s.modLane l fun L => loseTimes (heldSlots L + 1) (stoppedLane L) := by
  have full : headroom (s.modLane l haltedLane) l < recordSlots (.drawerAbort .stop (s.lane l).drawer.tries) := by
    rw [headroom_haltedLane, hroom, recordSlots_drawerAbort]; exact Nat.one_pos
  rw [stopLane_eq, if_pos ((kicking_iff _).mpr h), offer_of_not_fits full, lose, State.modLane_modLane, State.modLane_modLane]
  refine State.modLane_congr ?_
  rw [← loseLane_loseTimes]
  rfl

/-- What STOP of a lane is answered, and does. -/
theorem exec_stop {l : LaneId} {s : State} (hs : Serves s) :
    exec (.stop [laneByte l]) s =
      .next (replied 0x12 [laneByte l] [0x00]
        (if (s.lane l).run = .running then stopLane l (received s) else received s)) := by
  refine (frameCompletes_lane hs _ (kind := 0x12) (by decide) (body := [laneByte l]) rfl rfl).trans ?_
  by_cases hr : (s.lane l).run = .running <;> simp [hr, accept, resultByte]

/-- STOP of a RUNNING lane, where it comes to a change of the lane's section alone. -/
theorem exec_stop_modLane {l : LaneId} {s : State} (hs : Serves s) (hr : (s.lane l).run = .running) {f g : Lane → Lane}
    (h : stopLane l (received s) = (received s).modLane l f) (hfg : f (s.lane l) = g (s.lane l)) :
    exec (.stop [laneByte l]) s = .next (replied 0x12 [laneByte l] [0x00] ((received s).modLane l g)) := by
  rw [exec_stop hs, if_pos hr, h, State.modLane_congr (s := received s) hfg]

/-- Losses counted on a pending-loss count that is within its size (R125). -/
theorem loseTimes_of_le {n : Nat} {L : Lane} (h : L.lost ≤ 255) :
    loseTimes n L = { loseTimes n L with lost := min (L.lost + n) 255 } := by
  have hlost : (if n = 0 then L.lost else min (L.lost + n) 255) = min (L.lost + n) 255 := by split <;> omega
  simp only [loseTimes, hlost]

/-- STOP of a lane in a kick with room: the abort joins the queue with the losses of the emptied slots, and the lane is at rest. -/
theorem lane_stopLane_of_kicking {l : LaneId} {s : State} (h : (s.lane l).drawer.st = .kickPulse ∨ (s.lane l).drawer.st = .kickWait)
    (hroom : 1 ≤ headroom s l) :
    ∃ before after, (stopLane l s).lane l = leaveRunning (recomputeLane before after
      (joinQueue { body := .drawerAbort .stop (s.lane l).drawer.tries, stamp := s.clock } (haltedLane (s.lane l)))) := by
  have room : recordSlots (.drawerAbort .stop (s.lane l).drawer.tries) ≤ headroom (s.modLane l haltedLane) l := by
    rw [headroom_haltedLane, recordSlots_drawerAbort]; exact hroom
  rw [stopLane_eq, if_pos ((kicking_iff _).mpr h), offer_of_fits room, State.lane_modLane_same, lane_admit, if_pos rfl,
    State.lane_modLane_same]
  exact ⟨_, _, rfl⟩

/-- Settles O15. -/
theorem stopOfLane : Obligations.StopOfLane := by
  refine ⟨fun l s hs => ⟨fun hr ha hb hp hw => ?_, fun hr => ?_⟩, fun l s hs hr hp hw hl => ?_, fun l s hs hr hk hroom hl => ?_,
    fun l s hs hr hk hroom => ?_⟩
  · refine exec_stop_modLane hs hr (stopLane_of_not_kicking (s := received s) hp hw) ?_
    simp [heldSlots, ha, hb, loseTimes_zero]
  · rw [exec_stop hs, hr, if_neg (by decide)]
  · exact exec_stop_modLane hs hr (stopLane_of_not_kicking (s := received s) hp hw) (loseTimes_of_le (L := stoppedLane (s.lane l)) hl)
  · obtain ⟨before, after, e⟩ := lane_stopLane_of_kicking (s := received s) hk hroom
    have hlost : (haltedLane (s.lane l)).lost = min ((s.lane l).lost + heldSlots (s.lane l)) 255 :=
      congrArg Lane.lost (loseTimes_of_le (L := haltKeys (s.lane l)) hl)
    refine ⟨_, exec_stop hs, ?_⟩
    rw [if_pos hr, lane_replied, e]
    refine ⟨?_, ?_, ?_, ?_, ?_, rfl⟩
    · simp [leaveRunning, joinQueue, hlost, heldSlots, Nat.add_assoc]
    · simp [leaveRunning]
    · simp [leaveRunning, haltedLane, stoppedPort]
    · simp [leaveRunning, haltedLane, stoppedPort]
    · simp [leaveRunning, haltedLane, stoppedDrawer]
  · exact exec_stop_modLane hs hr (stopLane_of_kicking_full (s := received s) hk hroom) rfl

end Sys2Proof.Machine
end

section
/-! PROOFS. O57: a READY lane stays at rest (R1), and a row in its turn stays a row of a RUNNING lane (R12, R19). Both laws speak
of each lane section by itself, so a step is judged lane by lane: work in a RUNNING lane moves neither its lane state nor its
geometry nor its row, and leaves the activity of every other lane as it is; a READY lane is left at rest. -/

namespace Sys2Proof.Machine

open Sys2Proof.Claims

/-! ### The two laws of one lane section -/

/-- What R1 says of a READY lane. -/
def LaneAtRest (L : Lane) : Prop :=
  L.passTimer = none ∧ L.rowTurn = none ∧ L.keys = Vector.replicate 128 .up ∧ L.ghost = false ∧ L.held = [] ∧
    L.repeating = none ∧ L.lock = .noLock ∧ PortAtRest L.portA ∧ PortAtRest L.portB ∧
    L.drawer.st = .settling ∧ L.drawer.kick = false ∧ L.drawer.measure = none

theorem readyLaw_iff (s : State) : ReadyLaw s ↔ ∀ l : LaneId, (s.lane l).run = .ready → LaneAtRest (s.lane l) := Iff.rfl

/-- What R12 and R19 say of a row in its turn. -/
def RowOwned (L : Lane) : Prop := ∀ r, L.rowTurn = some r → L.run = .running ∧ r < L.cfg.rows

theorem rowLaw_iff (s : State) : RowLaw s ↔ ∀ l : LaneId, RowOwned (s.lane l) := Iff.rfl

/-- A change of a lane section keeps both laws. -/
def LaneKept (L L' : Lane) : Prop :=
  ((L.run = .ready → LaneAtRest L) → L'.run = .ready → LaneAtRest L') ∧ (RowOwned L → RowOwned L')

/-- A change of the part keeps both laws in every lane. -/
def LawsKept (s t : State) : Prop := ∀ l : LaneId, LaneKept (s.lane l) (t.lane l)

theorem LawsKept.readyLaw {s t : State} (h : LawsKept s t) (hs : ReadyLaw s) : ReadyLaw t :=
  (readyLaw_iff t).mpr fun l => (h l).1 ((readyLaw_iff s).mp hs l)

theorem LawsKept.rowLaw {s t : State} (h : LawsKept s t) (hs : RowLaw s) : RowLaw t :=
  (rowLaw_iff t).mpr fun l => (h l).2 ((rowLaw_iff s).mp hs l)

theorem LaneKept.refl (L : Lane) : LaneKept L L := ⟨id, id⟩

theorem LawsKept.refl (s : State) : LawsKept s s := fun _ => .refl _

theorem LawsKept.trans {s t u : State} (h : LawsKept s t) (h' : LawsKept t u) : LawsKept s u :=
  fun l => ⟨(h' l).1 ∘ (h l).1, (h' l).2 ∘ (h l).2⟩

/-! ### What the laws read of a lane section -/

/-- What R1 reads of a scanner port. -/
def portActivity (P : Port) : PortRx × List Byte × Option Nat × Option SlotRecord × List TxByte × Expect × Option Nat :=
  (P.rx, P.buf, P.gap, P.slot, P.txq, P.expect, P.replyTimer)

/-- The part of a lane section that the two laws read: not its records, flags, counters, lines or settings. -/
def activity (L : Lane) :=
  ((L.run, L.cfg.rows, L.rowTurn, L.passTimer, L.keys, L.ghost, L.held, L.repeating, L.lock),
    (portActivity L.portA, portActivity L.portB), (L.drawer.st, L.drawer.kick, L.drawer.measure))

theorem LaneKept.of_activity {L L' : Lane} (h : activity L' = activity L) : LaneKept L L' := by
  simp only [activity, portActivity, Prod.mk.injEq] at h
  simp [LaneKept, LaneAtRest, RowOwned, PortAtRest, h]

theorem LawsKept.of_activity {s t : State} (h : ∀ l : LaneId, activity (t.lane l) = activity (s.lane l)) : LawsKept s t :=
  fun l => .of_activity (h l)

/-- The device section is in neither law. -/
theorem LawsKept.of_lanes {s t : State} (h : t.lanes = s.lanes) : LawsKept s t :=
  .of_activity fun l => by rw [State.lane, h]; rfl

@[simp] theorem activity_recomputeLane (before after : Nat) (L : Lane) :
    activity (recomputeLane before after L) = activity L := by simp [activity]

@[simp] theorem activity_settleLane (L : Lane) : activity (settleLane L) = activity L := rfl

theorem LawsKept.settle (s : State) : LawsKept s (settle s) := .of_activity fun l => by simp

theorem LawsKept.offer (l : LaneId) (b : RecBody) (f : RecFlags) (s : State) : LawsKept s (offer l b f s) :=
  .of_activity fun k => by simp [activity]

theorem LawsKept.recompute (old s : State) : LawsKept s (recompute old s) := .of_activity fun l => by simp

theorem LawsKept.modLane {s : State} {l : LaneId} {f : Lane → Lane} (h : LaneKept (s.lane l) (f (s.lane l))) :
    LawsKept s (s.modLane l f) := by
  intro k
  by_cases e : k = l
  · subst e; simpa using h
  · simpa [e] using LaneKept.refl _

theorem LawsKept.modLane_activity {s : State} {l : LaneId} {f : Lane → Lane} (h : ∀ L, activity (f L) = activity L) :
    LawsKept s (s.modLane l f) := .modLane (.of_activity (h _))

/-- A lane section that ends READY and at rest is right by both laws, whatever it was. -/
theorem LaneKept.of_atRest {L L' : Lane} (h : LaneAtRest L') : LaneKept L L' := by
  refine ⟨fun _ _ => h, fun _ r hr => ?_⟩
  obtain ⟨-, hrow, -⟩ := h
  simp [hrow] at hr

/-! ### Work in one lane -/

/-- The lane state, the configuration and the row in its turn, which no work in a RUNNING lane moves. -/
def footing (L : Lane) : LaneState × LaneConfig × Option Nat := (L.run, L.cfg, L.rowTurn)

theorem frameView_footing : FrameView footing := fun _ _ hrun hcfg hrow => by simp [footing, hrun, hcfg, hrow]

/-- A part that work in lane `l` has made of another. -/
def WorkedFrom (l : LaneId) (s t : State) : Prop :=
  footing (t.lane l) = footing (s.lane l) ∧ ∀ k, k ≠ l → activity (t.lane k) = activity (s.lane k)

theorem WorkedFrom.refl (l : LaneId) (s : State) : WorkedFrom l s s := ⟨rfl, fun _ _ => rfl⟩

theorem keptByWork_workedFrom (l : LaneId) (s : State) : KeptByWork l footing (WorkedFrom l s) where
  change t f hf := by
    rintro ⟨hl, hk⟩
    exact ⟨by simp [hf, hl], fun k e => by simp [e, hk k e]⟩
  admission t r := by
    rintro ⟨hl, hk⟩
    exact ⟨by rw [← hl]; simp [lane_admit, footing], fun k e => by simp [lane_admit, e, hk k e]⟩

/-- Work in a lane keeps both laws, if it leaves the lane at rest where the lane is READY and at rest. -/
theorem LawsKept.of_work {l : LaneId} {s t : State} (h : WorkedFrom l s t)
    (rest : (s.lane l).run = .ready → LaneAtRest (s.lane l) → LaneAtRest (t.lane l)) : LawsKept s t := by
  intro k
  by_cases e : k = l
  · subst e
    obtain ⟨hrun, hcfg, hrow⟩ : (t.lane k).run = (s.lane k).run ∧ (t.lane k).cfg = (s.lane k).cfg ∧
        (t.lane k).rowTurn = (s.lane k).rowTurn := by simpa [footing] using h.1
    exact ⟨fun hs hr => rest (hrun ▸ hr) (hs (hrun ▸ hr)), fun hs r hr => by
      rw [hrun, hcfg]; exact hs r (hrow ▸ hr)⟩
  · exact .of_activity (h.2 k e)

/-- Work that a READY lane at rest does not begin. -/
theorem LawsKept.of_work_unless {l : LaneId} {s t : State} (h : WorkedFrom l s t)
    (idle : (s.lane l).run = .ready → LaneAtRest (s.lane l) → t = s) : LawsKept s t :=
  .of_work h fun hr hs => (idle hr hs).symm ▸ hs

/-! ### The requests -/

/-- A request keeps both laws. -/
def KeepsLaws (serve : Request) : Prop := ∀ body s, LawsKept s (serve body s).1

theorem keepsLaws_withLane {n : Nat} {serve : LaneId → Request} (h : ∀ l, KeepsLaws (serve l)) : KeepsLaws (withLane n serve) := by
  intro body s
  obtain ⟨l, e⟩ | ⟨r, e⟩ := withLane_cases n serve body s
  · exact e ▸ h l body s
  · exact e ▸ .refl s

theorem keepsLaws_withScope {n : Nat} {serve : Scope → Request} (h : ∀ scope, KeepsLaws (serve scope)) :
    KeepsLaws (withScope n serve) := by
  intro body s
  obtain ⟨l, e⟩ | ⟨r, e⟩ := withScope_cases n serve body s
  · exact e ▸ h l body s
  · exact e ▸ .refl s

theorem keepsLaws_withLength {n : Nat} {serve : Request} (h : KeepsLaws serve) : KeepsLaws (withLength n serve) := by
  intro body s
  obtain e | ⟨r, e⟩ := withLength_cases n serve body s
  · exact e ▸ h body s
  · exact e ▸ .refl s

/-- An attempt is work in a RUNNING lane, and a READY lane makes none (R96). -/
theorem LawsKept.attemptChain {l : LaneId} {s : State} (delayed : Bool) : LawsKept s (attemptChain l delayed s) :=
  .of_work_unless ((keptByWork_workedFrom l s).attemptChain frameView_footing.passView delayed (.refl l s))
    fun hr _ => attemptChain_of_not_running (by simp [hr]) delayed

theorem portAtRest_stoppedPort (P : Port) : PortAtRest (stoppedPort P) := ⟨rfl, rfl, rfl, rfl, rfl, rfl, rfl⟩

/-- A lane that RESET_LANE leaves is at rest (R5). -/
theorem laneAtRest_resetLane (L : Lane) : LaneAtRest (resetLane L) :=
  ⟨rfl, rfl, rfl, rfl, rfl, rfl, rfl, portAtRest_stoppedPort L.portA, portAtRest_stoppedPort L.portB, rfl, rfl, rfl⟩

/-- A lane that power-on reset leaves is at rest (R187). -/
theorem laneAtRest_resetLaneSection (L : Lane) : LaneAtRest (resetLaneSection L) := by
  simp [LaneAtRest, PortAtRest, resetLaneSection]

/-- A lane section that STOP has halted: all that R1 asks of a READY lane, its drawer apart. -/
def LaneHalted (L : Lane) : Prop :=
  L.passTimer = none ∧ L.rowTurn = none ∧ L.keys = Vector.replicate 128 .up ∧ L.ghost = false ∧ L.held = [] ∧
    L.repeating = none ∧ L.lock = .noLock ∧ PortAtRest L.portA ∧ PortAtRest L.portB

theorem laneHalted_haltedLane (L : Lane) : LaneHalted (haltedLane L) :=
  ⟨rfl, rfl, rfl, rfl, rfl, rfl, rfl, portAtRest_stoppedPort _, portAtRest_stoppedPort _⟩

theorem laneHalted_offer {l k : LaneId} {b : RecBody} {f : RecFlags} {s : State} (h : LaneHalted (s.lane k)) :
    LaneHalted ((offer l b f s).lane k) := by
  simpa [LaneHalted] using h

theorem LaneHalted.leaveRunning {L : Lane} (h : LaneHalted L) : LaneAtRest (leaveRunning L) := by
  obtain ⟨hpass, hrow, hkeys, hghost, hheld, hrep, hlock, hA, hB⟩ := h
  exact ⟨hpass, hrow, hkeys, hghost, hheld, hrep, hlock, hA, hB, rfl, rfl, rfl⟩

theorem LawsKept.stopLane (l : LaneId) (s : State) : LawsKept s (stopLane l s) := by
  have halted : LaneHalted ((s.modLane l haltedLane).lane l) := by
    rw [State.lane_modLane_same]; exact laneHalted_haltedLane _
  intro k
  rw [stopLane_eq]
  by_cases e : k = l
  · subst e
    refine .of_atRest ?_
    rw [State.lane_modLane_same]
    split
    · exact (laneHalted_offer halted).leaveRunning
    · exact halted.leaveRunning
  · refine .of_activity ?_
    split <;> simp [e, activity]

/-! #### The requests, block by block -/

theorem keepsLaws_identify : KeepsLaws serveIdentify := keepsLaws_withLength fun _ s => .refl s
theorem keepsLaws_getTime : KeepsLaws serveGetTime := keepsLaws_withLength fun _ s => .refl s
theorem keepsLaws_setTime : KeepsLaws serveSetTime := keepsLaws_withLength fun body s => by
  split
  · exact .refl s
  · exact .of_lanes rfl

theorem keepsLaws_resetDevice : KeepsLaws serveResetDevice := keepsLaws_withLength fun _ _ => .of_lanes rfl

/-- A new configuration of a READY lane: no row of it is in its turn. -/
theorem LaneKept.config {L : Lane} (h : L.run = .ready) (c : LaneConfig) : LaneKept L { L with cfg := c } := by
  refine ⟨id, fun hrow r hr => ?_⟩
  obtain ⟨hrun, -⟩ := hrow r hr
  simp [h] at hrun

theorem keepsLaws_laneConfig : KeepsLaws serveLaneConfig := keepsLaws_withLane fun l body s => by
  dsimp only
  split
  · exact .refl s
  · split
    · exact .refl s
    · split
      · exact .refl s
      · have hr : (s.lane l).run = .ready := by
          cases h : (s.lane l).run
          · rfl
          · contradiction
        exact (LawsKept.modLane (LaneKept.config hr _)).trans (.recompute s _)

/-- A lane that starts has no row in its turn. -/
theorem LaneKept.startLane (now : Nat) (L : Lane) : LaneKept L (startLane now L) :=
  ⟨fun _ hr => (nomatch hr), fun _ _ hr => (nomatch hr)⟩

theorem keepsLaws_start : KeepsLaws serveStart := keepsLaws_withLane fun l _ s => by
  split
  · exact .refl s
  · exact (LawsKept.modLane (LaneKept.startLane _ _)).trans (.offer l .laneStart {} _)

theorem keepsLaws_stop : KeepsLaws serveStop := keepsLaws_withLane fun l _ s => by
  split
  · exact .stopLane l s
  · exact .refl s

theorem keepsLaws_resetLane : KeepsLaws serveResetLane := keepsLaws_withLane fun _ _ s =>
  (LawsKept.modLane (.of_atRest (laneAtRest_resetLane _))).trans (.recompute s _)

theorem keepsLaws_linesSet : KeepsLaws serveLinesSet := keepsLaws_withLane fun l _ s => by
  dsimp only
  split
  · exact .refl s
  · exact LawsKept.modLane_activity fun _ => rfl

theorem keepsLaws_linesDir : KeepsLaws serveLinesDir := keepsLaws_withLane fun l _ s => by
  dsimp only
  split
  · exact .refl s
  · exact LawsKept.modLane_activity fun _ => rfl

theorem keepsLaws_linesRead (outside : Outside) : KeepsLaws (serveLinesRead outside) := keepsLaws_withLane fun _ _ _ =>
  LawsKept.modLane_activity fun _ => rfl

theorem keepsLaws_keymapWrite : KeepsLaws serveKeymapWrite := by
  intro body s
  unfold serveKeymapWrite
  dsimp only
  split
  · split
    · split <;> exact .refl s
    · exact .refl s
  · refine keepsLaws_withLane (fun l body s => ?_) body s
    split
    · exact .refl s
    · split
      · exact .refl s
      · split
        · exact .refl s
        · exact LawsKept.modLane_activity fun _ => rfl

theorem keepsLaws_keymapRead : KeepsLaws serveKeymapRead := keepsLaws_withLane fun l _ s => by
  dsimp only
  split <;> exact .refl s

/-- R1 reads no port configuration. -/
theorem activity_portConfig (L : Lane) (p : PortId) (c : PortConfig) :
    activity (L.modPort p fun P => { P with cfg := c }) = activity L := by
  cases p <;> rfl

theorem keepsLaws_portConfig : KeepsLaws servePortConfig := keepsLaws_withLane fun l body s => by
  split
  · split
    · exact .refl s
    · split
      · exact .refl s
      · exact LawsKept.modLane_activity fun L => activity_portConfig L _ _
  · exact .refl s

/-- Work in a lane that is not READY keeps both laws. -/
theorem LawsKept.of_work_running {l : LaneId} {s t : State} (h : WorkedFrom l s t) (hr : (s.lane l).run ≠ .ready) :
    LawsKept s t :=
  .of_work h fun hr' _ => absurd hr' hr

theorem sendRefusal_of_ready {L : Lane} (h : L.run = .ready) (p : PortId) (n : Nat) (expect : Bool) :
    sendRefusal L p n expect = some .state := by
  simp [sendRefusal, h]

theorem keepsLaws_scannerSend : KeepsLaws serveScannerSend := by
  intro body s
  unfold serveScannerSend
  dsimp only
  split
  · split
    · split <;> exact .refl s
    · exact .refl s
  · refine keepsLaws_withLane (fun l body s => ?_) body s
    split
    · exact .refl s
    · split
      · exact .refl s
      · split
        · exact .refl s
        · rename_i accepted
          refine .of_work_running ((keptByWork_workedFrom l s).modPort frameView_footing.passView _ _ (.refl l s)) fun hr => ?_
          simp [sendRefusal_of_ready hr] at accepted

theorem keepsLaws_filterConfig : KeepsLaws serveFilterConfig := keepsLaws_withLength fun body s => by
  dsimp only
  split
  · exact .refl s
  · exact .of_lanes rfl

theorem keepsLaws_symbologyWrite : KeepsLaws serveSymbologyWrite := by
  intro body s
  unfold serveSymbologyWrite
  dsimp only
  split
  · exact .refl s
  · split
    · exact .refl s
    · split
      · exact .refl s
      · exact .of_lanes rfl

theorem keepsLaws_forget : KeepsLaws serveForget := keepsLaws_withLane fun l _ s => by
  show LawsKept s (clearRecent l s)
  unfold clearRecent
  refine LawsKept.trans ?_ (.attemptChain true)
  exact LawsKept.modLane_activity fun _ => rfl

theorem LawsKept.removeOldest (l : LaneId) (n : Nat) (s : State) : LawsKept s (removeOldest l n s) := by
  unfold Machine.removeOldest
  split
  · exact .refl s
  · refine LawsKept.trans ?_ (.recompute s _)
    exact LawsKept.modLane_activity fun _ => rfl

theorem keepsLaws_fetch : KeepsLaws serveFetch := keepsLaws_withLane fun l _ s => .removeOldest l _ s
theorem keepsLaws_purge : KeepsLaws servePurge := keepsLaws_withLane fun l _ s => .removeOldest l _ s

theorem debouncedChangeDue_of_ready {s : State} {l : LaneId} (h : (s.lane l).run = .ready) : debouncedChangeDue s l = false := by
  simp [debouncedChangeDue, h]

theorem LawsKept.takeDebounced (l : LaneId) (s : State) : LawsKept s (takeDebounced l s) :=
  .of_work_unless ((keptByWork_workedFrom l s).takeDebounced frameView_footing (.refl l s)) fun hr _ => by
    simp [Machine.takeDebounced, debouncedChangeDue_of_ready hr]

/-- New drawer settings leave the drawer of a READY lane as R1 has it. -/
theorem LaneKept.writeDrawer (now : Nat) (t : Timing) (high : Bool) (n : Nat) (on : Bool) (L : Lane) :
    LaneKept L (writeDrawer now t high n on L) := by
  refine ⟨fun hs hr => ?_, id⟩
  have hr' : L.run = .ready := hr
  have e : activity (Machine.writeDrawer now t high n on L) = activity L := by
    simp [Machine.writeDrawer, hr', activity]
  exact (LaneKept.of_activity e).1 hs hr

theorem keepsLaws_drawerConfig : KeepsLaws serveDrawerConfig := keepsLaws_withLane fun l body s => by
  dsimp only
  split
  · exact .refl s
  · exact (LawsKept.modLane (LaneKept.writeDrawer ..)).trans (.takeDebounced l _)

theorem kickRefusal_of_ready {s : State} {l : LaneId} (h : (s.lane l).run = .ready) : kickRefusal s l = some .state := by
  simp [kickRefusal, h]

theorem keepsLaws_kick : KeepsLaws serveKick := keepsLaws_withLane fun l _ s => by
  split
  · exact .refl s
  · rename_i begins
    refine .of_work_running ((keptByWork_workedFrom l s).modDrawer frameView_footing _ (.refl l s)) fun hr => ?_
    simp [kickRefusal_of_ready hr] at begins

theorem keepsLaws_status : KeepsLaws serveStatus := keepsLaws_withScope fun scope _ s => by
  cases scope with
  | lane l => exact LawsKept.modLane_activity fun _ => rfl
  | device => exact .of_lanes rfl

theorem keepsLaws_ackFlags : KeepsLaws serveAckFlags := keepsLaws_withScope fun scope _ s => by
  dsimp only
  split
  · exact .refl s
  · cases scope with
    | lane l => exact LawsKept.modLane_activity fun _ => rfl
    | device =>
      refine .of_lanes ?_
      dsimp only [ackDevice]
      split <;> rfl

theorem keepsLaws_attnMask : KeepsLaws serveAttnMask := keepsLaws_withScope fun scope _ s => by
  split
  · exact .refl s
  · cases scope with
    | lane l => exact LawsKept.modLane_activity fun _ => rfl
    | device => exact .of_lanes rfl

theorem keepsLaws_clearFault : KeepsLaws serveClearFault := keepsLaws_withLane fun _ _ _ =>
  LawsKept.modLane_activity fun _ => rfl

theorem activity_latchLane (mask : Byte) (clock : Clock) (l : LaneId) (L : Lane) :
    activity (latchLane mask clock l L) = activity L := by
  unfold latchLane
  split <;> rfl

theorem keepsLaws_latchCounters : KeepsLaws serveLatchCounters := keepsLaws_withLength fun body s => by
  split
  · exact .refl s
  · exact .of_activity fun l => by simp [activity_latchLane]

theorem keepsLaws_readCounters : KeepsLaws serveReadCounters := keepsLaws_withLane fun l _ s => by
  dsimp only
  split
  · exact LawsKept.modLane_activity fun _ => rfl
  · exact .refl s

theorem keepsLaws_clearCounters : KeepsLaws serveClearCounters := keepsLaws_withLane fun _ _ _ =>
  LawsKept.modLane_activity fun _ => rfl

theorem keepsLaws_unknown : KeepsLaws serveUnknown := fun _ s => .refl s

/-- Every block of the dispatcher keeps both laws. -/
theorem keepsLaws_served (outside : Outside) : ∀ serve ∈ servedBlocks outside, KeepsLaws serve := by
  simp only [servedBlocks, List.forall_mem_cons]
  exact ⟨keepsLaws_identify, keepsLaws_getTime, keepsLaws_setTime, keepsLaws_resetDevice, keepsLaws_laneConfig,
    keepsLaws_start, keepsLaws_stop, keepsLaws_resetLane, keepsLaws_linesSet, keepsLaws_linesDir, keepsLaws_linesRead outside,
    keepsLaws_keymapWrite, keepsLaws_keymapRead, keepsLaws_portConfig, keepsLaws_scannerSend, keepsLaws_filterConfig,
    keepsLaws_symbologyWrite, keepsLaws_forget, keepsLaws_fetch, keepsLaws_purge, keepsLaws_drawerConfig, keepsLaws_kick,
    keepsLaws_status, keepsLaws_ackFlags, keepsLaws_attnMask, keepsLaws_clearFault, keepsLaws_latchCounters,
    keepsLaws_readCounters, keepsLaws_clearCounters, keepsLaws_unknown, nofun⟩

/-! ### Frames and runs of characters -/

theorem LawsKept.badFrameCounted (s : State) : LawsKept s (badFrameCounted s) := .of_lanes rfl

theorem LawsKept.goodFrame {serve : Request} (h : KeepsLaws serve) (kind : Byte) (body : List Byte) (s : State) :
    LawsKept s (goodFrame serve kind body s) := by
  unfold Machine.goodFrame
  split
  · exact .refl s
  · split
    · exact .of_lanes rfl
    · exact (h body s).trans (.of_lanes rfl)

theorem LawsKept.request (outside : Outside) (kind : Byte) (body : List Byte) (s : State) :
    LawsKept s (Machine.goodFrame (requestOf outside kind) kind body s) :=
  .goodFrame (keepsLaws_served outside _ (requestOf_mem outside kind)) kind body s

theorem LawsKept.restartLineGap (s : State) : LawsKept s (restartLineGap s) := .of_lanes rfl

theorem LawsKept.frameCompletes (outside : Outside) (kind : Byte) (body : List Byte) (s : State) :
    LawsKept s (frameCompletes (requestOf outside kind) kind body s) := by
  refine LawsKept.trans ?_ (.request outside kind body _)
  exact .of_lanes rfl

theorem LawsKept.takeChars (run : LineRun) (s : State) : LawsKept s (takeChars run s) := by
  have hunted : ∀ fuel chars t, LawsKept s t → LawsKept s (hunt run.outside fuel chars t) :=
    hunt_keeps (fun t _ h => h.trans (.of_lanes rfl)) (fun t h => h.trans (.badFrameCounted t))
      fun kind body t h => (h.trans (.request _ kind body t)).trans (.settle _)
  unfold Machine.takeChars
  split
  · exact .refl s
  · refine LawsKept.trans ?_ (.restartLineGap _)
    exact hunted _ _ _ (.of_lanes rfl)

/-! ### The events of a lane -/

/-- The end of a pass of a RUNNING lane releases its row and keeps its lane state and configuration. -/
theorem LawsKept.samplePass (l : LaneId) (closed : BitVec 128) (s : State) : LawsKept s (samplePass l closed s) := by
  unfold Machine.samplePass
  split
  case isTrue due =>
    have hr : (s.lane l).run = .running := by
      simp only [passDue, Bool.and_eq_true, decide_eq_true_eq] at due
      exact due.1.1
    have pass : LawsKept s (s.modLane l (nextPass closed)) :=
      .modLane ⟨fun _ h => by simp [nextPass, hr] at h, fun _ _ h => (nomatch h)⟩
    refine pass.trans (.of_work_running ((keptByWork_workedFrom l _).passWork frameView_footing closed (.refl l _)) ?_)
    simp [nextPass, hr]
  case isFalse => exact .refl s

theorem not_listening_of_ready {L : Lane} (h : L.run = .ready) (p : PortId) : listening L p = false := by
  simp [listening, h]

/-- A change of one port that keeps what R1 reads of it. -/
theorem LawsKept.modPort {l : LaneId} {p : PortId} {f : Port → Port} {s : State}
    (h : (s.lane l).run = .ready → PortAtRest (s.port l p) → PortAtRest (f (s.port l p))) : LawsKept s (s.modPort l p f) := by
  refine .of_work ((keptByWork_workedFrom l s).modPort frameView_footing.passView p f (.refl l s)) fun hr rest => ?_
  obtain ⟨hpass, hrow, hkeys, hghost, hheld, hrep, hlock, hA, hB, hdrawer⟩ := rest
  rw [State.modPort, State.lane_modLane_same]
  cases p with
  | A => exact ⟨hpass, hrow, hkeys, hghost, hheld, hrep, hlock, h hr hA, hB, hdrawer⟩
  | B => exact ⟨hpass, hrow, hkeys, hghost, hheld, hrep, hlock, hA, h hr hB, hdrawer⟩

theorem LaneAtRest.port {L : Lane} (h : LaneAtRest L) (p : PortId) : PortAtRest (L.port p) := by
  obtain ⟨-, -, -, -, -, -, -, hA, hB, -⟩ := h
  cases p
  · exact hA
  · exact hB

/-- A character of a READY lane's line is discarded (R61). -/
theorem LawsKept.receiveChar (l : LaneId) (p : PortId) (c : ScanChar) (s : State) : LawsKept s (receiveChar l p c s) := by
  by_cases hr : (s.lane l).run = .ready
  · have e : Machine.receiveChar l p c s = s.modPort l p fun P => { P with charStart := false, charDrop := false } := by
      simp [Machine.receiveChar, not_listening_of_ready hr]
    exact e ▸ .modPort fun _ h => h
  · exact .of_work_running ((keptByWork_workedFrom l s).receiveChar frameView_footing.passView p c (.refl l s)) hr

theorem LawsKept.gapExpires (l : LaneId) (p : PortId) (s : State) : LawsKept s (gapExpires l p s) :=
  .of_work_unless ((keptByWork_workedFrom l s).gapExpires frameView_footing.passView p (.refl l s)) fun hr _ => by
    simp [Machine.gapExpires, gapDue, not_listening_of_ready hr]

/-- The attempt of a growth report clears its mark, and a READY lane makes none. -/
theorem LawsKept.takeGrowth (l : LaneId) (s : State) : LawsKept s (takeGrowth l s) := by
  unfold Machine.takeGrowth
  split
  · refine LawsKept.trans ?_ (.attemptChain true)
    exact LawsKept.modLane_activity fun _ => rfl
  · exact .refl s

/-- A port at rest has nothing queued and expects nothing, so the end of its last byte starts nothing (R77). -/
theorem portAtRest_byteSent {P : Port} (h : PortAtRest P) (now : Nat) : PortAtRest (byteSent now P) := by
  obtain ⟨hrx, hbuf, hgap, hslot, htxq, hexpect, htimer⟩ := h
  unfold byteSent
  split
  · exact ⟨hrx, hbuf, hgap, hslot, htxq, hexpect, htimer⟩
  · simp [beginNext, htxq, hexpect, PortAtRest, hrx, hbuf, hgap, hslot, htimer]

theorem portAtRest_startBit {P : Port} (h : PortAtRest P) : PortAtRest (startBit P) := by
  obtain ⟨hrx, hbuf, -, hrest⟩ := h
  exact ⟨hrx, hbuf, rfl, hrest⟩

theorem LawsKept.replyExpires (l : LaneId) (p : PortId) (s : State) : LawsKept s (replyExpires l p s) :=
  .of_work_unless ((keptByWork_workedFrom l s).replyExpires frameView_footing.passView p (.refl l s)) fun _ rest => by
    obtain ⟨-, -, -, -, -, hexpect, -⟩ := rest.port p
    simp [Machine.replyExpires, replyDue, State.port, hexpect]

/-- The drawer of a lane at rest is in SETTLING. -/
theorem LaneAtRest.settling {L : Lane} (h : LaneAtRest L) : L.drawer.st = .settling := by
  obtain ⟨-, -, -, -, -, -, -, -, -, hst, -⟩ := h
  exact hst

theorem LawsKept.pulseExpires (l : LaneId) (s : State) : LawsKept s (pulseExpires l s) :=
  .of_work_unless ((keptByWork_workedFrom l s).pulseExpires frameView_footing (.refl l s)) fun _ rest => by
    simp [Machine.pulseExpires, pulseDue, rest.settling]

theorem LawsKept.retryExpires (l : LaneId) (s : State) : LawsKept s (retryExpires l s) :=
  .of_work_unless ((keptByWork_workedFrom l s).retryExpires frameView_footing (.refl l s)) fun _ rest => by
    simp [Machine.retryExpires, retryDue, rest.settling]

theorem LawsKept.openExpires (l : LaneId) (s : State) : LawsKept s (openExpires l s) :=
  .of_work_unless ((keptByWork_workedFrom l s).openExpires frameView_footing (.refl l s)) fun _ rest => by
    simp [Machine.openExpires, openDue, rest.settling]

theorem LawsKept.abortKick (l : LaneId) (s : State) : LawsKept s (abortKick l s) :=
  .of_work_unless ((keptByWork_workedFrom l s).abortKick frameView_footing (.refl l s)) fun hr _ => by
    simp [Machine.abortKick, hr]

theorem LawsKept.assertInhibit (order : List LaneId) (s : State) : LawsKept s (assertInhibit order s) := by
  have aborts : ∀ (ls : List LaneId) (t : State), LawsKept t (ls.foldl (fun t l => Machine.abortKick l t) t) := by
    intro ls
    induction ls with
    | nil => exact fun t => .refl t
    | cons l ls ih => exact fun t => (LawsKept.abortKick l t).trans (ih _)
  unfold Machine.assertInhibit
  split
  · exact .refl s
  · refine LawsKept.trans ?_ (aborts _ _)
    exact .of_lanes rfl

/-- A level of DSENSE is noted in READY, and begins no measurement (R145). -/
theorem LawsKept.senseLevel (l : LaneId) (high : Bool) (s : State) : LawsKept s (senseLevel l high s) := by
  refine .of_work ((keptByWork_workedFrom l s).senseLevel frameView_footing high (.refl l s)) fun hr rest => ?_
  rw [Machine.senseLevel, State.lane_modLane_same]
  split
  · exact rest
  · simpa [hr, LaneAtRest] using rest

/-! ### Resets and the idle part -/

@[simp] theorem lane_resetAll (straps : BitVec 2) (s : State) (l : LaneId) :
    (resetAll straps s).lane l = resetLaneSection (s.lane l) := by
  simp [resetAll, State.lane]

theorem LawsKept.resetAll (straps : BitVec 2) (s : State) : LawsKept s (resetAll straps s) := fun l => by
  rw [lane_resetAll]
  exact .of_atRest (laneAtRest_resetLaneSection _)

/-- A row that takes its turn is a row of a RUNNING lane's geometry (R19). -/
theorem LawsKept.driveRows (s : State) : LawsKept s (driveRows s) := by
  intro l
  rw [lane_driveRows]
  split
  case isTrue left =>
    obtain ⟨due, more⟩ := (rowLeft_iff s l).mp left
    simp only [passDue, Bool.and_eq_true, decide_eq_true_eq] at due
    obtain ⟨⟨hr, hrows⟩, -⟩ := due
    refine ⟨fun _ h => absurd (hr.symm.trans h) (by decide), fun _ r h => ⟨hr, ?_⟩⟩
    rw [nextRow_rowTurn, Option.some.injEq] at h
    cases hturn : (s.lane l).rowTurn with
    | none => rw [hturn] at h; exact h ▸ hrows
    | some q => rw [hturn] at h; exact h ▸ more q hturn
  case isFalse => exact .refl _

theorem LawsKept.idle (s : State) : LawsKept s (idle s) := by
  obtain ⟨-, e⟩ | ⟨-, -, e⟩ | ⟨-, -, e⟩ := idle_cases s <;> rw [e]
  · exact .driveRows s
  · exact .of_lanes rfl
  · exact .of_lanes rfl

/-! ### Every command -/

/-- What every command does before the outputs are judged. -/
theorem exec_keepsLaws (i : Instr) (s : State) : ∃ t, exec i s = done t ∧ LawsKept s t := by
  cases h : requestFrame i with
  | some frame =>
    obtain ⟨kind, body⟩ := frame
    obtain ⟨outside, e⟩ := exec_frame h s
    exact ⟨_, e, .frameCompletes outside kind body s⟩
  | none =>
    cases i
    case badFrame run => exact ⟨_, rfl, .takeChars run s⟩
    case gapLimitExpiry =>
      refine ⟨_, rfl, .of_lanes ?_⟩
      unfold lineGapExpires
      split <;> rfl
    case replySent => exact ⟨_, rfl, .of_lanes rfl⟩
    case resetDeviceActs straps =>
      refine ⟨_, rfl, ?_⟩
      unfold resetActs
      split
      · exact .resetAll straps s
      · exact .refl s
    case powerOnReset straps => exact ⟨_, rfl, .resetAll straps s⟩
    case samplePassEnd l closed => exact ⟨_, rfl, .samplePass l closed s⟩
    case scannerCharacterReceived l p c => exact ⟨_, rfl, .receiveChar l p c s⟩
    case gapTimerExpiry l p => exact ⟨_, rfl, .gapExpires l p s⟩
    case growthReport l => exact ⟨_, rfl, .takeGrowth l s⟩
    case transmitByteSent l p => exact ⟨_, rfl, .modPort fun _ h => portAtRest_byteSent h _⟩
    case replyTimerExpiry l p => exact ⟨_, rfl, .replyExpires l p s⟩
    case rawSensorChange l high => exact ⟨_, rfl, .senseLevel l high s⟩
    case debouncedChange l => exact ⟨_, rfl, .takeDebounced l s⟩
    case pulseTimerExpiry l => exact ⟨_, rfl, .pulseExpires l s⟩
    case retryTimerExpiry l => exact ⟨_, rfl, .retryExpires l s⟩
    case openTimerExpiry l => exact ⟨_, rfl, .openExpires l s⟩
    case inhNAsserted order => exact ⟨_, rfl, .assertInhibit order s⟩
    case inhNReleased => exact ⟨_, rfl, .of_lanes rfl⟩
    case scannerStartBit l p => exact ⟨_, rfl, .modPort fun _ h => portAtRest_startBit h⟩
    case systemLineStartBit => exact ⟨_, rfl, .of_lanes rfl⟩
    all_goals cases h

/-- Every step keeps both laws. -/
theorem step_keepsLaws {s t : State} (h : step s = .next t) : LawsKept s t := by
  unfold step at h
  split at h
  · cases h
    exact .idle s
  · rename_i i rest _
    obtain ⟨u, e, kept⟩ := exec_keepsLaws i { s with pending := rest }
    cases e.symm.trans h
    exact LawsKept.trans (.of_lanes rfl) (kept.trans (.settle u))

/-- Settles O57: every step keeps the law of READY lanes, and the law of rows in their turn. -/
theorem readyLawKept : Obligations.ReadyLawKept :=
  ⟨fun _ _ hs h => (step_keepsLaws h).readyLaw hs, fun _ _ hs h => (step_keepsLaws h).rowLaw hs⟩

end Sys2Proof.Machine
end

section
/-! PROOFS. O17: LANE_CONFIG. Its judgements are read as the conditions of R7 to R9, and clamping as the nearer limit of
Table 1-7 (R8). -/

namespace Sys2Proof.Machine

/-! ### Fields and clamping -/

/-- A 32-bit field is its four bytes, least significant first. -/
theorem u32_eq (body : List Byte) (i : Nat) :
    u32 body i = u8 body i + 256 * u8 body (i + 1) + 65536 * u8 body (i + 2) + 16777216 * u8 body (i + 3) := by
  show u8 body i + 256 * u8 body (i + 1) + 65536 * (u8 body (i + 2) + 256 * u8 body (i + 3)) = _
  omega

/-- Clamping takes the nearer limit (section 1.4). -/
theorem clamp_eq {lo hi : Nat} (h : lo ≤ hi) (n : Nat) : clamp lo hi n = if n < lo then lo else if hi < n then hi else n := by
  unfold clamp
  split
  · omega
  · split <;> omega

theorem clamp_le {lo hi : Nat} (h : lo ≤ hi) (n : Nat) : clamp lo hi n ≤ hi := by unfold clamp; omega

theorem le_clamp (lo hi n : Nat) : lo ≤ clamp lo hi n := Nat.le_max_left ..

theorem clamp_of_inRange {lo hi n : Nat} (hlo : lo ≤ n) (hhi : n ≤ hi) : clamp lo hi n = n := by unfold clamp; omega

/-- A clamped configuration is within Table 1-7, its reserve at most its cap (R8). -/
theorem laneInRange_clampLane (c : LaneConfig) : LaneInRange (clampLane c) := by
  have hreserve : min (clamp 0 256 c.reserve) (clamp 16 512 c.cap) ≤ 256 :=
    (Nat.min_le_left ..).trans (clamp_le (by decide) _)
  exact ⟨clamp_le (by decide) _, le_clamp .., clamp_le (by decide) _, le_clamp .., clamp_le (by decide) _, le_clamp ..,
    clamp_le (by decide) _, le_clamp .., clamp_le (by decide) _, le_clamp .., clamp_le (by decide) _, le_clamp ..,
    clamp_le (by decide) _, le_clamp .., clamp_le (by decide) _, hreserve, le_clamp .., clamp_le (by decide) _,
    Nat.min_le_right .., le_clamp .., clamp_le (by decide) _, clamp_le (by decide) _⟩

/-- A configuration within every range is not changed by clamping. -/
theorem clampLane_of_inRange {c : LaneConfig} (h : LaneInRange c) : clampLane c = c := by
  obtain ⟨hrows, hcols, hcols', hperiod, hperiod', hpress, hpress', hrelease, hrelease', hroll, hroll', hdelay, hdelay',
    hinterval, hinterval', hreserve, hcap, hcap', hfits, hmargin, hmargin', hhyst⟩ := h
  simp only [clampLane, clamp_of_inRange (Nat.zero_le _) hrows, clamp_of_inRange hcols hcols', clamp_of_inRange hperiod hperiod',
    clamp_of_inRange hpress hpress', clamp_of_inRange hrelease hrelease', clamp_of_inRange hroll hroll',
    clamp_of_inRange hdelay hdelay', clamp_of_inRange hinterval hinterval', clamp_of_inRange (Nat.zero_le _) hreserve,
    clamp_of_inRange hcap hcap', clamp_of_inRange hmargin hmargin', clamp_of_inRange (Nat.zero_le _) hhyst, Nat.min_eq_left hfits]

/-- The lower of two numbers, as the reserve is lowered to the cap. -/
theorem min_eq_lowered (a b : Nat) : min a b = if b < a then b else a := by
  split <;> omega

/-! ### The judgements (R7, R9) -/

/-- The defined values of a LANE_CONFIG body: the diodes field 0 or 1, and no mask bit above bit 5 (R7). -/
theorem laneFields_defined (body : List Byte) :
    (!offOn body 7 || !masksDefined body) = false ↔ u8 body 7 ≤ 1 ∧ u8 body 16 < 64 ∧ u8 body 17 < 64 ∧ u8 body 18 < 64 := by
  simp [offOn, masksDefined, bitsBelow, and_assoc]

/-- The three limits of R9. -/
theorem roomFor_iff (l : LaneId) (c : LaneConfig) (s : State) :
    roomFor l c s = true ↔
      sumLanes (fun L => L.cfg.reserve) (withConfig l c s) ≤ 512 ∧ occupancy (s.lane l) ≤ c.cap ∧
        sumLanes sharedUse (withConfig l c s) ≤ 512 - sumLanes (fun L => L.cfg.reserve) (withConfig l c s) := by
  have hocc : occupancy ((withConfig l c s).lane l) = occupancy (s.lane l) := by simp [withConfig, occupancy]
  simp only [roomFor, Bool.and_eq_true, decide_eq_true_eq, and_assoc]
  rw [hocc]
  rfl

/-- What a LANE_CONFIG of its length for lane l is answered, and does (R7 to R10). -/
theorem exec_laneConfig {l : LaneId} {body : List Byte} {s : State} (hs : Serves s) (hlen : body.length = 19)
    (hlane : body.head? = some (laneByte l)) :
    exec (.laneConfig body) s =
      if !offOn body 7 || !masksDefined body then .next (replied 0x10 body [0x04] (received s))
      else if (s.lane l).run = .running then .next (replied 0x10 body [0x06] (received s))
      else if !roomFor l (clampLane (laneGiven body)) (received s) then .next (replied 0x10 body [0x0C] (received s))
      else .next (replied 0x10 body [if clampLane (laneGiven body) = laneGiven body then 0x00 else 0x01]
        (recompute (received s) (withConfig l (clampLane (laneGiven body)) (received s)))) := by
  refine (frameCompletes_lane hs _ (kind := 0x10) (by decide) hlen hlane).trans ?_
  dsimp only
  rw [lane_received]
  split
  · rfl
  · split
    · rfl
    · split
      · rfl
      · by_cases same : clampLane (laneGiven body) = laneGiven body <;> simp [same, accept, okOrClamped, resultByte]

/-- Settles O17. -/
theorem laneConfigJudgedAndTaken : Obligations.LaneConfigJudgedAndTaken := by
  refine ⟨⟨fun body i l => ⟨rfl, rfl, rfl, u32_eq body i, rfl⟩, sumLanes_eq, fun l body s hs hlen hlane => ?_⟩,
    laneInRange_clampLane, fun c => clampLane_of_inRange, fun c => ?_, fun c hrows hreserve hcap => ?_, fun c hreserve hcap => ?_⟩
  · have defined := laneFields_defined body
    have room := roomFor_iff l (clampLane (laneGiven body)) (received s)
    dsimp only
    refine ⟨fun bad => ⟨0x10, body, rfl, ?_⟩, fun good hr => ⟨0x10, body, rfl, ?_⟩, fun good hr full => ⟨0x10, body, rfl, ?_⟩,
      fun good hr fits => ?_⟩ <;> rw [exec_laneConfig hs hlen hlane]
    · rw [if_pos (Bool.not_eq_false _ ▸ fun h => bad (defined.mp h))]
    · rw [defined.mpr good, hr, if_neg Bool.false_ne_true, if_pos rfl]
    · have h : roomFor l (clampLane (laneGiven body)) (received s) = false := Bool.not_eq_true _ ▸ fun h => full (room.mp h)
      rw [defined.mpr good, hr, h, if_neg Bool.false_ne_true, if_neg (by decide), if_pos (by decide)]
    · rw [defined.mpr good, hr, room.mpr fits, if_neg Bool.false_ne_true, if_neg (by decide), if_neg (by decide)]
      rfl
  · dsimp only
    rw [clampLane, min_eq_lowered]
    iterate 12 rw [clamp_eq (by decide)]
  · simp [clampLane, hrows, hreserve, hcap, clamp]
  · simp [clampLane, hreserve, hcap, clamp]

end Sys2Proof.Machine
end

section
/-! PROOFS. O4: the values after power-on reset, read off the reset lane section. -/

namespace Sys2Proof.Machine

theorem lane_reset (l : LaneId) : State.reset.lane l = {} := by
  match l with
  | 0 => rfl
  | 1 => rfl
  | 2 => rfl
  | 3 => rfl

/-- Every lane is empty after reset, with 64 slots reserved (R119). -/
theorem freeShared_reset : freeShared State.reset = 256 := by
  simp [freeShared, sharedPart, sumLanes_eq, lane_reset, sharedUse, occupancy, Config.poolSlots]

theorem totalFree_reset : totalFree State.reset = 512 := by
  simp [totalFree, sumLanes_eq, lane_reset, occupancy, Config.poolSlots]

theorem headroom_reset (l : LaneId) : headroom State.reset l = 256 := by
  simp [headroom, freeShared_reset, lane_reset, headroomOf, occupancy]

theorem defaultKeymap_get (p : Fin 128) :
    defaultKeymap[p] =
      { cls := .normal, base := BitVec.ofNat 16 p.val, shifted := BitVec.ofNat 16 (p.val + 128), repeats := true } := by
  simp [defaultKeymap]

/-- Settles O4. -/
theorem resetValues : Obligations.ResetValues := by
  refine ⟨fun l => ?_, freeShared_reset, totalFree_reset, fun i => ?_, ?_⟩
  · have h := headroom_reset l
    rw [lane_reset] at *
    refine ⟨rfl, rfl, rfl, h, rfl, rfl, rfl, rfl, rfl, defaultKeymap_get, rfl, rfl, rfl, fun q => ?_, ?_⟩
    · cases q <;> simp [txRestsHigh]
    · simp [laneFlags, stickyFlags]
  · simp [State.reset]
  · simp [State.reset, stxdRestsHigh, sending]

end Sys2Proof.Machine
end

section
/-! PROOFS. O43: the sensor, the open alarm, and the lock position that holds and resumes the open timer. Up to its notice a pass
moves neither the lock position nor an OPEN drawer, whatever keys it hands over; the notice then sets both. -/

namespace Sys2Proof.Machine

/-! ### The sensor (R145) -/

theorem debouncedOpen_eq (D : Drawer) : debouncedOpen D = (decide (D.st = .opened) || decide (D.st = .overdue)) := by
  cases h : D.st <;> simp [debouncedOpen, h]

/-- The raw reading at a level: open when the level is that of the polarity (R145). -/
theorem rawOpen_at (D : Drawer) (high : Bool) : rawOpen { D with dsense := high } = decide (high = D.openHigh) := by
  cases high <;> cases D.openHigh <;> simp [rawOpen]

/-- The measurement that a change of the raw reading leaves, in each case (R145, R146). -/
theorem rawChanged_eq (now : Nat) (D : Drawer) :
    rawChanged now D =
      { D with measure := if D.st = .settling ∨ rawOpen D ≠ debouncedOpen D then some now else none } := by
  by_cases hst : D.st = .settling
  · simp [rawChanged, hst]
  · by_cases hraw : rawOpen D = debouncedOpen D <;> simp [rawChanged, hst, hraw]

theorem senseLevel_same {l : LaneId} {high : Bool} {s : State} (h : high = (s.lane l).drawer.dsense) : senseLevel l high s = s := by
  unfold senseLevel
  rw [State.modLane_congr (g := id) (by simp [h]), State.modLane_self]

theorem senseLevel_unwatched {l : LaneId} {high : Bool} {s : State} (h : high ≠ (s.lane l).drawer.dsense)
    (hr : (s.lane l).run ≠ .running) :
    senseLevel l high s = s.modLane l fun L => { L with drawer := { L.drawer with dsense := high } } :=
  State.modLane_congr (by simp [h.symm, hr])

/-- A new level at the sensor of a RUNNING lane begins or ends the measurement (R145). -/
theorem senseLevel_watched {l : LaneId} {high : Bool} {s : State} (h : high ≠ (s.lane l).drawer.dsense)
    (hr : (s.lane l).run = .running) :
    senseLevel l high s = s.modLane l fun L =>
      { L with drawer := rawChanged s.elapsed { L.drawer with dsense := high } } :=
  State.modLane_congr (by simp [h.symm, hr])

/-! ### The open alarm (R53, R153, R154) -/

theorem alarmPaused_congr {L L' : Lane} (hlock : L'.lock = L.lock) (hcfg : L'.cfg = L.cfg) : alarmPaused L' = alarmPaused L := by
  simp [alarmPaused, hlock, hcfg]

/-- A pausing position holds a running count; another lets it run on (R153). -/
theorem pauseOpen_running {D : Drawer} {counted since : Nat} (hst : D.st = .opened) (h : D.openTimer = .running counted since)
    (now : Nat) (paused : Bool) :
    pauseOpen now paused D = if paused then { D with openTimer := .held (counted + (now - since)) } else D := by
  cases paused <;> simp [pauseOpen, hst, h, openCount]

/-- A position that does not pause lets a held count go on from now; another keeps it held (R153). -/
theorem pauseOpen_held {D : Drawer} {counted : Nat} (hst : D.st = .opened) (h : D.openTimer = .held counted) (now : Nat)
    (paused : Bool) :
    pauseOpen now paused D = if paused then D else { D with openTimer := .running counted now } := by
  cases paused <;> simp [pauseOpen, hst, h]

/-- A KICK of a lane whose drawer is open is refused, so a local one leaves no trace (R148, Table 8-2). -/
theorem localKick_of_opened {l : LaneId} {s : State} (h : (s.lane l).drawer.st = .opened) : localKick l s = s := by
  have refused : kickRefusal s l ≠ none := by
    unfold kickRefusal
    simp only [h]
    split_ifs <;> simp
  unfold localKick
  split
  · rfl
  · contradiction

/-- What the open alarm reads of a lane section. -/
def alarmView (L : Lane) : LaneConfig × LockPos × Drawer := (L.cfg, L.lock, L.drawer)

/-- A part in which lane `l` has the configuration, the lock position and the drawer that it has in another, at the same moment. -/
def AlarmKept (l : LaneId) (s t : State) : Prop := t.elapsed = s.elapsed ∧ alarmView (t.lane l) = alarmView (s.lane l)

theorem passView_alarmView : PassView alarmView := fun _ _ _ hcfg _ hlock hdrawer => by simp [alarmView, hcfg, hlock, hdrawer]

theorem AlarmKept.refl (l : LaneId) (s : State) : AlarmKept l s s := ⟨rfl, rfl⟩

theorem AlarmKept.fields {l : LaneId} {s t : State} (h : AlarmKept l s t) :
    t.elapsed = s.elapsed ∧ (t.lane l).cfg = (s.lane l).cfg ∧ (t.lane l).lock = (s.lane l).lock ∧
      (t.lane l).drawer = (s.lane l).drawer := by
  obtain ⟨helapsed, hview⟩ := h
  simp only [alarmView, Prod.mk.injEq] at hview
  exact ⟨helapsed, hview⟩

theorem keptByWork_alarmKept (l : LaneId) (s : State) : KeptByWork l alarmView (AlarmKept l s) where
  change t f hf := by
    rintro ⟨helapsed, hview⟩
    exact ⟨helapsed, by simp [hf, hview]⟩
  admission t r := by
    rintro ⟨helapsed, hview⟩
    exact ⟨helapsed, by rw [← hview]; simp [lane_admit, alarmView]⟩

/-- Before its notice a pass of a lane whose drawer is OPEN keeps the lock position and the drawer. -/
theorem alarmKept_walk {l : LaneId} (closed : BitVec 128) {s : State} (h : (s.lane l).drawer.st = .opened) :
    AlarmKept l s (walk l closed (ghostAnalysis l closed s)) := by
  have kept := keptByWork_alarmKept l s
  have noKick : ∀ t, AlarmKept l s t → AlarmKept l s (localKick l t) := fun t ht => by
    obtain ⟨-, -, -, hdrawer⟩ := ht.fields
    rwa [localKick_of_opened (by rw [hdrawer, h])]
  exact kept.walk passView_alarmView noKick closed (kept.ghostAnalysis passView_alarmView closed (.refl l s))

/-- The drawer after a new lock position has been given to it: held or resumed by the position's pause (R153). -/
theorem lockNotice_fields (l : LaneId) (s : State) :
    ((lockNotice l s).lane l).cfg = (s.lane l).cfg ∧ ((lockNotice l s).lane l).lock = computeLock (s.lane l) ∧
      ((lockNotice l s).lane l).drawer =
        if computeLock (s.lane l) = (s.lane l).lock then (s.lane l).drawer
        else pauseOpen s.elapsed (alarmPaused ((lockNotice l s).lane l)) (s.lane l).drawer := by
  have kept := keptByWork_alarmKept l (s.modLane l fun L => { L with lock := computeLock (s.lane l) })
  have defined := kept.defineLock passView_alarmView (computeLock (s.lane l)) (.refl l _)
  have attempted := kept.attemptChain passView_alarmView true defined
  obtain ⟨-, hcfg, hlock, hdrawer⟩ := defined.fields
  obtain ⟨-, hcfg', hlock', hdrawer'⟩ := attempted.fields
  rw [State.lane_modLane_same] at hcfg hlock hdrawer hcfg' hlock' hdrawer'
  unfold lockNotice
  dsimp only
  split
  · exact ⟨hcfg, hlock, hdrawer⟩
  · rw [State.lane_modLane_same]
    exact ⟨hcfg', hlock', by rw [hdrawer']; rfl⟩

/-- The drawer, the lock position and the configuration after the pass of a lane whose drawer is OPEN. -/
theorem passWork_fields {l : LaneId} (closed : BitVec 128) {s : State} (h : (s.lane l).drawer.st = .opened) :
    ((passWork l closed s).lane l).drawer =
      if ((passWork l closed s).lane l).lock = (s.lane l).lock then (s.lane l).drawer
      else pauseOpen s.elapsed (alarmPaused ((passWork l closed s).lane l)) (s.lane l).drawer := by
  obtain ⟨helapsed, -, hlock, hdrawer⟩ := (alarmKept_walk closed h).fields
  unfold passWork notice
  generalize walk l closed (ghostAnalysis l closed s) = u at *
  obtain ⟨-, hlock', hdrawer'⟩ := lockNotice_fields l u
  obtain ⟨-, hcfg'', hlock'', hdrawer''⟩ := ((keptByWork_alarmKept l (lockNotice l u)).repeatNotice passView_alarmView
    (u.lane l).storeHigh (.refl l _)).fields
  rw [hdrawer'', hdrawer', hlock'', alarmPaused_congr hlock'' hcfg'', hlock', hlock, hdrawer, helapsed]

/-- Settles O43. -/
theorem sensorAndAlarmEvents : Obligations.SensorAndAlarmEvents := by
  refine ⟨fun L => ⟨fun h => ?_, fun h => ?_, fun i h => ?_⟩, fun l high s => ?_, fun l counted since s hst hopen halarm hdue => ?_,
    fun l closed s hdue hst => ?_⟩
  · simp [alarmPaused, h]
  · simp [alarmPaused, h]
  · simp [alarmPaused, h, inMask]
  · refine ⟨fun same => ?_, fun moved idle => ?_, fun moved watched begins => ?_, fun moved watched settled agrees => ?_⟩
    · exact congrArg (fun t => Host.Outcome.next (settle t)) (senseLevel_same same)
    · refine congrArg (fun t => Host.Outcome.next (settle t)) ((senseLevel_unwatched moved idle).trans ?_)
      rfl
    · refine congrArg (fun t => Host.Outcome.next (settle t)) ((senseLevel_watched moved watched).trans ?_)
      refine State.modLane_congr ?_
      rw [rawChanged_eq, if_pos (begins.imp id (by simpa [rawOpen_at, debouncedOpen_eq] using ·))]
    · refine congrArg (fun t => Host.Outcome.next (settle t)) ((senseLevel_watched moved watched).trans ?_)
      refine State.modLane_congr ?_
      rw [rawChanged_eq, if_neg (not_or.mpr ⟨settled, by simpa [rawOpen_at, debouncedOpen_eq] using agrees⟩)]
  · have due : openDue s l = true := by
      simp [openDue, hst, hopen, openRuns, halarm, openCount, hdue]
    show Host.Outcome.next (settle (openExpires l s)) = _
    rw [openExpires, if_pos due]
    rfl
  · refine ⟨settle (passWork l closed (s.modLane l (nextPass closed))), ?_, ?_⟩
    · show Host.Outcome.next (settle (samplePass l closed s)) = _
      rw [samplePass, if_pos hdue]
    · have hst' : ((s.modLane l (nextPass closed)).lane l).drawer.st = .opened := by simpa [nextPass] using hst
      have fields := passWork_fields closed hst'
      generalize passWork l closed (s.modLane l (nextPass closed)) = t at *
      rw [State.lane_modLane_same] at fields
      change (t.lane l).drawer = if (t.lane l).lock = (s.lane l).lock then (s.lane l).drawer
        else pauseOpen s.elapsed (alarmPaused (t.lane l)) (s.lane l).drawer at fields
      have paused : alarmPaused ((settle t).lane l) = alarmPaused (t.lane l) := by
        rw [lane_settle]; exact alarmPaused_congr rfl rfl
      rw [paused, lane_settle, settleLane_lock, settleLane_drawer, fields]
      refine ⟨fun same => if_pos same, fun moved => ⟨fun counted since running => ?_, fun counted held => ?_⟩⟩
      · rw [if_neg moved, pauseOpen_running hst running]
      · rw [if_neg moved, pauseOpen_held hst held]

end Sys2Proof.Machine
end

section
/-! PROOFS. O18: the general lines. Requests that write a latch or a direction are read bit by bit; a bit set that is sent is read
back bit by bit; a frame's characters are judged good, so that a LINES_READ found among them is the one that came as a frame. -/

namespace Sys2Proof.Machine

/-! ### Bits -/

/-- A set of lines in which those of a mask take the values given (R13, R14). -/
def masked (old : BitVec 26) (mask values : Nat) : BitVec 26 :=
  (old &&& ~~~BitVec.ofNat 26 mask) ||| (BitVec.ofNat 26 values &&& BitVec.ofNat 26 mask)

/-- A line in the mask takes the value given, and every other line keeps its own (R13, R14). -/
theorem getLsbD_masked (old : BitVec 26) (mask values n : Nat) (h : n < 26) :
    (masked old mask values).getLsbD n = if mask.testBit n then values.testBit n else old.getLsbD n := by
  cases hm : mask.testBit n <;>
    simp only [masked, BitVec.getLsbD_or, BitVec.getLsbD_and, BitVec.getLsbD_not, BitVec.getLsbD_ofNat, h, hm] <;> simp

/-- Bit n of a set that is sent is line n (Table 11-5). -/
theorem testBit_sum_pow (f : Nat → Bool) (m n : Nat) :
    ((List.range m).map fun k => if f k then 2 ^ k else 0).sum < 2 ^ m ∧
      (((List.range m).map fun k => if f k then 2 ^ k else 0).sum).testBit n = (decide (n < m) && f n) := by
  induction m with
  | zero => simp
  | succ m ih =>
    obtain ⟨hlt, hbit⟩ := ih
    rw [List.range_succ, List.map_append, List.sum_append, List.map_singleton, List.sum_singleton, Nat.add_comm]
    generalize ((List.range m).map fun k => if f k then 2 ^ k else 0).sum = low at *
    have hpow : 2 ^ (m + 1) = 2 * 2 ^ m := Nat.pow_succ'
    have hlt' : (if f m then 2 ^ m else 0) + low < 2 ^ (m + 1) := by split <;> omega
    refine ⟨hlt', ?_⟩
    obtain below | rfl | above := Nat.lt_trichotomy n m
    · have hn : n < m + 1 := by omega
      cases f m <;> simp [Nat.testBit_two_pow_add_gt below, hbit, below, hn]
    · cases f n <;> simp [Nat.testBit_two_pow_add_eq, Nat.testBit_lt_two_pow hlt]
    · have hn : ¬ n < m + 1 := by omega
      rw [Nat.testBit_lt_two_pow (hlt'.trans_le (Nat.pow_le_pow_right (by decide) above))]
      simp [hn]

theorem testBit_lineBits (f : Nat → Bool) (n : Nat) : (lineBits f).testBit n = (decide (n < 26) && f n) :=
  (testBit_sum_pow f 26 n).2

/-! ### LINES_SET and LINES_DIR (R13, R14) -/

theorem bitsBelow_iff (n value : Nat) : bitsBelow n value = true ↔ value < 2 ^ n := by simp [bitsBelow]

theorem offOn_iff (body : List Byte) (i : Nat) : offOn body i = true ↔ u8 body i ≤ 1 := by simp [offOn]

theorem not_bitsBelow_iff (n value : Nat) : (!bitsBelow n value) = true ↔ 2 ^ n ≤ value := by simp [bitsBelow]

theorem not_offOn_iff (body : List Byte) (i : Nat) : (!offOn body i) = true ↔ 2 ≤ u8 body i := by
  simp only [offOn, Bool.not_eq_true', decide_eq_false_iff_not]
  omega

/-- What a LINES_SET of its length for lane l is answered, and does (R13). -/
theorem exec_linesSet {l : LaneId} {body : List Byte} {s : State} (hs : Serves s) (hlen : body.length = 9)
    (hlane : body.head? = some (laneByte l)) :
    exec (.linesSet body) s =
      if !bitsBelow 26 (u32 body 1) || !bitsBelow 26 (u32 body 5) then .next (replied 0x14 body [0x04] (received s))
      else .next (replied 0x14 body [0x00] ((received s).modLane l fun L =>
        { L with lineLatch := masked L.lineLatch (u32 body 1) (u32 body 5) })) := by
  refine (frameCompletes_lane hs _ (kind := 0x14) (by decide) hlen hlane).trans ?_
  dsimp only
  split <;> rfl

/-- What a LINES_DIR of its length for lane l is answered, and does (R14). -/
theorem exec_linesDir {l : LaneId} {body : List Byte} {s : State} (hs : Serves s) (hlen : body.length = 10)
    (hlane : body.head? = some (laneByte l)) :
    exec (.linesDir body) s =
      if !bitsBelow 26 (u32 body 1) || !bitsBelow 26 (u32 body 5) || !offOn body 9 then
        .next (replied 0x15 body [0x04] (received s))
      else .next (replied 0x15 body [0x00] ((received s).modLane l fun L =>
        { L with lineDir := masked L.lineDir (u32 body 1) (u32 body 5), pullUp := isOn body 9 })) := by
  refine (frameCompletes_lane hs _ (kind := 0x15) (by decide) hlen hlane).trans ?_
  dsimp only
  split <;> rfl

theorem linesSet_judged {l : LaneId} {body : List Byte} {s : State} (hs : Serves s) (hlane : body.head? = some (laneByte l))
    (hlen : body.length = 9) :
    (u32 body 1 < 2 ^ 26 ∧ u32 body 5 < 2 ^ 26 →
      ∃ v : BitVec 26,
        exec (.linesSet body) s = .next (replied 0x14 body [0x00] ((received s).modLane l fun L => { L with lineLatch := v })) ∧
        ∀ n, n < 26 → v.getLsbD n =
          if (u32 body 1).testBit n then (u32 body 5).testBit n else (s.lane l).lineLatch.getLsbD n) ∧
    (2 ^ 26 ≤ u32 body 1 ∨ 2 ^ 26 ≤ u32 body 5 → RefusedAs (.linesSet body) 0x04 s) := by
  refine ⟨fun ⟨hmask, hvalues⟩ => ⟨_, ?_, fun n hn => getLsbD_masked (s.lane l).lineLatch (u32 body 1) (u32 body 5) n hn⟩,
    fun h => ⟨0x14, body, rfl, ?_⟩⟩ <;> rw [exec_linesSet hs hlen hlane]
  · rw [(bitsBelow_iff 26 _).mpr hmask, (bitsBelow_iff 26 _).mpr hvalues]
    rfl
  · exact if_pos (by simpa only [Bool.or_eq_true, not_bitsBelow_iff] using h)

theorem linesDir_judged {l : LaneId} {body : List Byte} {s : State} (hs : Serves s) (hlane : body.head? = some (laneByte l))
    (hlen : body.length = 10) :
    (u32 body 1 < 2 ^ 26 ∧ u32 body 5 < 2 ^ 26 ∧ u8 body 9 ≤ 1 →
      ∃ v : BitVec 26,
        exec (.linesDir body) s =
          .next (replied 0x15 body [0x00]
            ((received s).modLane l fun L => { L with lineDir := v, pullUp := decide (u8 body 9 = 1) })) ∧
        ∀ n, n < 26 → v.getLsbD n =
          if (u32 body 1).testBit n then (u32 body 5).testBit n else (s.lane l).lineDir.getLsbD n) ∧
    (2 ^ 26 ≤ u32 body 1 ∨ 2 ^ 26 ≤ u32 body 5 ∨ 2 ≤ u8 body 9 → RefusedAs (.linesDir body) 0x04 s) := by
  refine ⟨fun ⟨hmask, hdirs, hpull⟩ => ⟨_, ?_, fun n hn => getLsbD_masked (s.lane l).lineDir (u32 body 1) (u32 body 5) n hn⟩,
    fun h => ⟨0x15, body, rfl, ?_⟩⟩ <;> rw [exec_linesDir hs hlen hlane]
  · rw [(bitsBelow_iff 26 _).mpr hmask, (bitsBelow_iff 26 _).mpr hdirs, (offOn_iff _ _).mpr hpull]
    rfl
  · exact if_pos (by simpa only [Bool.or_eq_true, not_bitsBelow_iff, not_offOn_iff, or_assoc] using h)

/-! ### Frames among the characters (R178, R179) -/

/-- A byte as an undamaged character. -/
def cleanChar (b : Byte) : LineChar := { value := b, damaged := false }

theorem frameChars_eq (kind : Byte) (body : List Byte) :
    frameChars kind body =
      cleanChar 0x5A :: ((frameBytes kind body).drop 1).map cleanChar := rfl

/-- The characters of a frame after its start byte are judged good, with its kind and its body (R178, R179). -/
theorem judgeFrame_clean (kind : Byte) {body : List Byte} (h : body.length ≤ 250) (after : List LineChar) :
    judgeFrame (((frameBytes kind body).drop 1).map cleanChar ++ after) = .good kind body after := by
  have sum := frameBytes_sum kind body
  obtain ⟨check, hbytes⟩ : ∃ check, (frameBytes kind body).drop 1 = byteOf (body.length + 1) :: (kind :: body ++ [check]) :=
    ⟨_, rfl⟩
  rw [hbytes] at sum ⊢
  have hn : (byteOf (body.length + 1)).toNat = body.length + 1 := by
    simp only [byteOf, BitVec.toNat_ofNat]; omega
  have hlen : ((kind :: body ++ [check]).map cleanChar).length = body.length + 1 + 1 := by simp
  have clean : ((kind :: body ++ [check]).map cleanChar).any LineChar.damaged = false := by
    simp [cleanChar]
  have values : ((kind :: body ++ [check]).map cleanChar).map LineChar.value = kind :: body ++ [check] := by
    simp [cleanChar, Function.comp_def]
  rw [List.map_cons, List.cons_append]
  generalize (kind :: body ++ [check]).map cleanChar = chars at *
  simp only [judgeFrame, cleanChar, hn, ← hlen, List.take_left', List.drop_left', clean, values, judgeSum, sum]
  have fits : ¬ 251 < body.length + 1 := by omega
  simp [fits]

theorem hunt_nil (outside : Outside) (fuel : Nat) (s : State) : hunt outside fuel [] s = { s with rx := .hunt } := by
  cases fuel <;> rfl

/-- The characters of a good frame, taken by a receiver that hunts, serve that frame and no other (R179). -/
theorem takeChars_frameChars (kind : Byte) {body : List Byte} (h : body.length ≤ 250) (outside : Outside) {s : State}
    (hrx : s.rx = .hunt) (hdrop : s.lineDrop = false) :
    takeChars { chars := frameChars kind body, outside := outside } s =
      restartLineGap { settle (goodFrame (requestOf outside kind) kind body { s with lineStart := false, lineDrop := false }) with
        rx := .hunt } := by
  have judged := judgeFrame_clean kind h []
  rw [List.append_nil] at judged
  have starts : ¬ ((cleanChar 0x5A).damaged = true ∨ (cleanChar 0x5A).value ≠ 0x5A) := by simp [cleanChar]
  simp only [takeChars, frameChars_eq, hdrop, hrx, heldChars, List.isEmpty_cons, List.nil_append, List.length_cons, hunt,
    Bool.false_eq_true, if_false, if_neg starts, judged]
  exact congrArg restartLineGap (hunt_nil ..)

/-- Judged outputs do not change when they are judged again. -/
theorem settle_settle (s : State) : settle (settle s) = settle s := by
  have lanes : (settle s).mapLanes (fun _ L => settleLane L) = settle s :=
    State.ext_lanes (fun l => by simp [settleLane_idem]) rfl
  show { (settle s).mapLanes (fun _ L => settleLane L) with
    attn := attnLevel ((settle s).mapLanes fun _ L => settleLane L) } = settle s
  rw [lanes]
  rfl

/-- A LINES_READ touches nothing but the pins of its lane (R16). -/
theorem serveLinesRead_receiver (outside : Outside) (body : List Byte) (s : State) :
    (serveLinesRead outside body s).1.rx = s.rx ∧ (serveLinesRead outside body s).1.lineGap = s.lineGap := by
  unfold serveLinesRead withLane
  split
  · exact ⟨rfl, rfl⟩
  · split_ifs <;> exact ⟨rfl, rfl⟩

theorem goodFrame_receiver {serve : Request} {kind : Byte} {body : List Byte} {s : State}
    (h : (serve body s).1.rx = s.rx ∧ (serve body s).1.lineGap = s.lineGap) :
    (goodFrame serve kind body s).rx = s.rx ∧ (goodFrame serve kind body s).lineGap = s.lineGap := by
  unfold goodFrame
  split_ifs
  · exact ⟨rfl, rfl⟩
  · exact ⟨rfl, rfl⟩
  · exact h

/-- A receiver that hunts with its gap limit stopped is as it was. -/
theorem restartLineGap_hunting {s : State} (hrx : s.rx = .hunt) (hgap : s.lineGap = none) :
    restartLineGap { s with rx := .hunt } = s := by
  simp only [restartLineGap, ← hrx, ← hgap]

/-- A LINES_READ found among the characters of a bad frame is the one that comes as a frame of its own. -/
theorem exec_badFrame_linesRead {body : List Byte} (h : body.length ≤ 250) (outside : Outside) {s : State} (hrx : s.rx = .hunt)
    (hgap : s.lineGap = none) (hdrop : s.lineDrop = false) :
    exec (.badFrame { chars := frameChars 0x16 body, outside := outside }) s =
      exec (.linesRead { body := body, outside := outside }) s := by
  have same : ({ s with lineStart := false, lineDrop := false } : State) = { lineHunt s with lineStart := false, lineDrop := false } := by
    simp only [lineHunt, ← hrx, ← hgap]
  obtain ⟨hrx', hgap'⟩ := goodFrame_receiver (kind := 0x16)
    (serveLinesRead_receiver outside body { lineHunt s with lineStart := false, lineDrop := false })
  show done (takeChars _ s) = done (goodFrame (serveLinesRead outside) 0x16 body _)
  rw [takeChars_frameChars 0x16 h outside hrx hdrop, same]
  have again := restartLineGap_hunting
    (s := settle (goodFrame (serveLinesRead outside) 0x16 body { lineHunt s with lineStart := false, lineDrop := false })) hrx' hgap'
  exact (congrArg done again).trans (congrArg Host.Outcome.next (settle_settle _))

/-! ### Owned and unowned lines (R12, R16, R19, Table 1-8) -/

/-- The lines that the keyboard owns in a lane whose geometry is within Table 1-7 (R12). -/
theorem lineOwned_iff {L : Lane} {n : Nat} (hrows : L.cfg.rows ≤ 8) (hcols : L.cfg.cols ≤ 16) :
    lineOwned L n = true ↔ L.run = .running ∧ 1 ≤ L.cfg.rows ∧ (n < L.cfg.rows ∨ 8 ≤ n ∧ n < 8 + L.cfg.cols) := by
  simp only [lineOwned, Bool.and_eq_true, Bool.or_eq_true, decide_eq_true_eq, and_assoc]
  refine and_congr_right fun _ => and_congr_right fun _ => ?_
  omega

/-- An owned column is inside the geometry, so the crossing of it with a configured row is a position of that row and column. -/
theorem columnLow_iff {L : Lane} {n : Nat} (h : lineOwned L n = true) (hn : 8 ≤ n) :
    columnLow L n = true ↔ ∃ r, L.rowTurn = some r ∧ r < L.cfg.rows ∧ L.contacts.getLsbD (r * 16 + (n - 8)) = true := by
  have hcol : n - 8 < L.cfg.cols ∧ n - 8 < 16 := by
    simp only [lineOwned, Bool.and_eq_true, Bool.or_eq_true, decide_eq_true_eq] at h
    omega
  unfold columnLow
  cases hturn : L.rowTurn with
  | none => simp
  | some r =>
    have hdiv : (r * 16 + (n - 8)) / 16 = r := by omega
    have hmod : (r * 16 + (n - 8)) % 16 = n - 8 := by omega
    simp [rawClosed, inGeometry, crossing, hdiv, hmod, hcol.1]

theorem ownedLine {L : Lane} {n : Nat} (h : lineOwned L n = true) :
    (n < 8 → linePin L n = (if L.rowTurn = some n then .low else .released) ∧
      (lineLevelNow L n = false ↔ L.rowTurn = some n)) ∧
    (8 ≤ n → linePin L n = .pulledUp ∧
      (lineLevelNow L n = false ↔
        ∃ r, L.rowTurn = some r ∧ r < L.cfg.rows ∧ L.contacts.getLsbD (r * 16 + (n - 8)) = true)) := by
  refine ⟨fun hrow => ?_, fun hcol => ?_⟩
  · simp [linePin, lineLevelNow, h, hrow]
  · have hcol' : ¬ n < 8 := by omega
    simp [linePin, lineLevelNow, h, hcol', ← columnLow_iff h hcol]

theorem outsideLevel_eq (L : Lane) (n : Nat) (pulled : Bool) :
    outsideLevel L n pulled = (L.lineLevel.getLsbD n || pulled && !L.lineAttached.getLsbD n) := by
  cases pulled <;> cases h : L.lineAttached.getLsbD n <;> simp [outsideLevel, h]

theorem unownedLine {L : Lane} {n : Nat} (h : lineOwned L n = false) :
    (L.lineDir.getLsbD n = false →
      linePin L n = (if L.pullUp then .pulledUp else .released) ∧
        lineLevelNow L n = (L.lineLevel.getLsbD n || L.pullUp && !L.lineAttached.getLsbD n)) ∧
      (L.lineDir.getLsbD n = true → L.lineLatch.getLsbD n = false → linePin L n = .low ∧ lineLevelNow L n = false) ∧
      (L.lineDir.getLsbD n = true → L.lineLatch.getLsbD n = true →
        linePin L n = (if n < 8 then .released else .high) ∧
          lineLevelNow L n = if n < 8 then L.lineLevel.getLsbD n else true) := by
  refine ⟨fun input => ?_, fun output low => ?_, fun output high => ?_⟩
  · cases hp : L.pullUp <;> simp [linePin, lineLevelNow, unownedDrive, h, input, hp, outsideLevel_eq]
  · simp [linePin, lineLevelNow, unownedDrive, h, output, low]
  · by_cases hrow : n < 8 <;> simp [linePin, lineLevelNow, unownedDrive, h, output, high, hrow, outsideLevel_eq]

/-- What a LINES_READ of lane l is answered, with the pins as the outside gives them now (R16). -/
theorem exec_linesRead {l : LaneId} (outside : Outside) {s : State} (hs : Serves s) :
    exec (.linesRead { body := [laneByte l], outside := outside }) s =
      .next (replied 0x16 [laneByte l] (linesReply l (pinsGiven outside[l] (s.lane l)))
        ((received s).setLane l (pinsGiven outside[l] (s.lane l)))) := by
  refine (frameCompletes_lane hs _ (kind := 0x16) (by decide) (body := [laneByte l]) rfl rfl).trans ?_
  dsimp only
  rw [State.lane_modLane_same]
  rfl

/-- Settles O18. -/
theorem generalLines : Obligations.GeneralLines :=
  ⟨fun _ _ _ hs hlane => ⟨linesSet_judged hs hlane, linesDir_judged hs hlane⟩,
    testBit_lineBits, fun _ outside _ hs => exec_linesRead outside hs,
    fun _ outside _ h hrx hgap hdrop => exec_badFrame_linesRead h outside hrx hgap hdrop,
    fun _ _ hrows _ hcols _ => lineOwned_iff hrows hcols, fun _ _ => ownedLine, fun _ _ => unownedLine⟩

end Sys2Proof.Machine
end

section
/-! PROOFS. What the events of a part leave of its keyboards. Two views of a lane section: all that a sample pass reads and writes
but for its repeats, which attempts, offers and the end-of-pass notice keep; and the debounce states with the held-key list, which
every event but a pass keeps. -/

namespace Sys2Proof.Machine

/-! ### The keyboard of a lane -/

/-- What a sample pass reads of a lane section, with the held-key list and what ghost analysis writes (R20, R23). -/
def keyboard (L : Lane) :
    (LaneState × LaneConfig × Vector KeymapEntry 128 × Vector KeyState 128 × List HeldKey) × Bool × FaultRecord × BitVec 32 :=
  ((L.run, L.cfg, L.keymap, L.keys, L.held), L.ghost, L.fault, L.counters[3])

/-- The keyboard of every lane is the same in two parts. -/
def KeyboardKept (s t : State) : Prop := ∀ k : LaneId, keyboard (t.lane k) = keyboard (s.lane k)

theorem keyboard_countLane {c : Counter} (hc : c ≠ .ghostEpisodes) (L : Lane) : keyboard (countLane c L) = keyboard L := by
  have other : (counterIndex c).val ≠ 3 := by
    revert hc
    cases c <;> decide
  have kept : (countLane c L).counters[3] = L.counters[3] := Vector.getElem_set_ne (counterIndex c).isLt (by decide) other
  simp only [keyboard, kept]
  rfl

theorem keyboard_loseLane (L : Lane) : keyboard (loseLane L) = keyboard L :=
  keyboard_countLane (c := .recordsLost) (by decide) { L with lost := min (L.lost + 1) 255 }

theorem keyboard_modPort (L : Lane) (p : PortId) (f : Port → Port) : keyboard (L.modPort p f) = keyboard L := by
  simp [keyboard]

theorem keyboard_acceptLane (p : PortId) (r : SlotRecord) (L : Lane) : keyboard (acceptLane p r L) = keyboard L :=
  (keyboard_modPort ..).trans ((keyboard_countLane (by decide) _).trans (keyboard_modPort { L with recent := _ } _ _))

theorem keyboard_rejectLane (p : PortId) (L : Lane) : keyboard (rejectLane p L) = keyboard L :=
  (keyboard_modPort ..).trans ((keyboard_countLane (by decide) _).trans (keyboard_modPort ..))

theorem keyboard_suppressLane (p : PortId) (r : SlotRecord) (cross : Bool) (L : Lane) :
    keyboard (suppressLane p r cross L) = keyboard L :=
  (keyboard_modPort ..).trans (keyboard_countLane (by cases cross <;> decide) _)

namespace KeyboardKept

variable {s t : State}

theorem refl (s : State) : KeyboardKept s s := fun _ => rfl

theorem modLane (h : KeyboardKept s t) {l : LaneId} {f : Lane → Lane} (hf : keyboard (f (t.lane l)) = keyboard (t.lane l)) :
    KeyboardKept s (t.modLane l f) := by
  intro k
  by_cases e : k = l
  · subst e; rw [State.lane_modLane_same, hf, h k]
  · rw [State.lane_modLane_other _ _ e, h k]

/-! #### Offers, attempts and the notice -/

theorem admission (h : KeyboardKept s t) {l : LaneId} {r : Rec} : KeyboardKept s (admitRecord l r t) := by
  intro k
  rw [← h k, lane_admit]
  split <;> simp [keyboard]

theorem count (h : KeyboardKept s t) {l : LaneId} {c : Counter} (hc : c ≠ .ghostEpisodes) : KeyboardKept s (count l c t) :=
  h.modLane (keyboard_countLane hc _)

theorem raise (h : KeyboardKept s t) {l : LaneId} {f : Byte} : KeyboardKept s (raise l f t) := h.modLane rfl

theorem lose (h : KeyboardKept s t) {l : LaneId} : KeyboardKept s (lose l t) := h.modLane (keyboard_loseLane _)

theorem offer (h : KeyboardKept s t) {l : LaneId} {b : RecBody} {f : RecFlags} : KeyboardKept s (offer l b f t) := by
  obtain ⟨_, e⟩ | ⟨_, e⟩ := offer_cases l b f t
  · exact e ▸ h.admission
  · exact e ▸ h.lose

theorem attemptRecord (h : KeyboardKept s t) {l : LaneId} {p : PortId} {r : SlotRecord} {delayed : Bool} :
    KeyboardKept s (attemptRecord l p r delayed t).1 := by
  unfold Machine.attemptRecord
  split
  case h_1 => exact h.modLane (keyboard_suppressLane ..)
  case h_2 =>
    split
    · exact h.admission.modLane (keyboard_acceptLane ..)
    · exact h
  case h_3 =>
    split
    · exact h.admission.modLane (keyboard_rejectLane ..)
    · exact h

theorem attempt (h : KeyboardKept s t) {l : LaneId} {delayed : Bool} : KeyboardKept s (attempt l delayed t).1 := by
  unfold Machine.attempt
  split
  · exact h
  · split
    · exact h
    · exact h.attemptRecord

theorem attemptChain (h : KeyboardKept s t) {l : LaneId} {delayed : Bool} : KeyboardKept s (attemptChain l delayed t) := by
  unfold Machine.attemptChain
  split
  · exact h.attempt.attempt
  · exact h.attempt

theorem clearRecent (h : KeyboardKept s t) {l : LaneId} : KeyboardKept s (clearRecent l t) :=
  (h.modLane (f := fun L => { L with recent := [] }) rfl).attemptChain

theorem defineLock (h : KeyboardKept s t) {l : LaneId} {new : LockPos} : KeyboardKept s (defineLock l new t) := by
  unfold Machine.defineLock
  split
  · split
    · exact h
    · exact h.offer.raise.modLane rfl
  all_goals exact h

theorem lockNotice (h : KeyboardKept s t) {l : LaneId} : KeyboardKept s (lockNotice l t) := by
  have defined := (h.modLane (l := l) (f := fun L => { L with lock := computeLock (t.lane l) }) rfl).defineLock (l := l)
    (new := computeLock (t.lane l))
  unfold Machine.lockNotice
  dsimp only
  split
  · exact defined
  · exact (defined.attemptChain).modLane rfl

theorem repeatNotice (h : KeyboardKept s t) {l : LaneId} {high : Bool} : KeyboardKept s (repeatNotice l high t) := by
  obtain e | ⟨r, k, _, _, _, e⟩ := repeatNotice_cases l high t
  · rwa [e]
  · rw [e, repeatFalls]
    split
    · exact (h.modLane rfl).count (by decide)
    · exact (h.modLane rfl).offer

theorem notice (h : KeyboardKept s t) {l : LaneId} : KeyboardKept s (notice l t) := h.lockNotice.repeatNotice

/-! #### Presses and releases -/

theorem localKick (h : KeyboardKept s t) {l : LaneId} : KeyboardKept s (localKick l t) := by
  unfold Machine.localKick
  split
  · exact h
  · exact h.modLane (l := l) (f := fun L => { L with drawer := beginPulse t.elapsed 1 L.drawer }) rfl

theorem classAction (h : KeyboardKept s t) {l : LaneId} {cls : KeyClass} : KeyboardKept s (classAction l cls t) := by
  cases cls with
  | drawer =>
    unfold Machine.classAction
    dsimp only
    split
    · exact h.localKick
    · exact h
  | clearRecent => exact h.clearRecent
  | ignore | normal | shift | lockContact => exact h

end KeyboardKept

/-- The held-key entry that a press makes (R43, R44). -/
def pressEntry (now : Nat) (L : Lane) (p : Nat) : HeldKey :=
  if isKeyClass (keymapAt L p).cls then keyEntry now L p
  else { pos := p, cls := (keymapAt L p).cls, code := (keymapAt L p).base, layer := false, repeats := false, mark := now }

@[simp] theorem pressEntry_pos (now : Nat) (L : Lane) (p : Nat) : (pressEntry now L p).pos = p := by
  unfold pressEntry
  split <;> rfl

@[simp] theorem pressEntry_cls (now : Nat) (L : Lane) (p : Nat) : (pressEntry now L p).cls = (keymapAt L p).cls := by
  unfold pressEntry
  split <;> rfl

/-- Of its lane's keyboard a press changes the held-key list alone, which its entry joins. -/
theorem KeyboardKept.press (l : LaneId) (p : Nat) (s : State) :
    KeyboardKept (s.modLane l fun L => { L with held := L.held ++ [pressEntry s.elapsed (s.lane l) p] }) (press l p s) := by
  unfold Machine.press pressEntry
  split
  · exact (((KeyboardKept.refl _).offer.count (by decide)).modLane rfl).classAction
  · exact .refl _

theorem heldFind_eq_none_iff (L : Lane) (p : Nat) : heldFind L p = none ↔ ∀ h ∈ L.held, h.pos ≠ p := by
  simp [heldFind]

/-- Of its lane's keyboard a release changes the held-key list alone, which the entries of its position leave. -/
theorem KeyboardKept.release (l : LaneId) (p : Nat) (s : State) :
    KeyboardKept (s.modLane l (dropHeld p)) (release l p s) := by
  unfold Machine.release
  split
  case h_1 absent =>
    have same : dropHeld p (s.lane l) = { s.lane l with repeating := (dropHeld p (s.lane l)).repeating } := by
      have all : (s.lane l).held.filter (fun h => decide (h.pos ≠ p)) = (s.lane l).held := by
        simpa using (heldFind_eq_none_iff ..).mp absent
      simp only [dropHeld, all]
    intro k
    by_cases e : k = l
    · subst e; rw [State.lane_modLane_same, same]; rfl
    · rw [State.lane_modLane_other _ _ e]
  case h_2 h _ =>
    intro k
    dsimp only
    have offered : KeyboardKept s (if isKeyClass h.cls = true then
        Machine.offer l (.keyUp p h.code (heldTime s.elapsed h.mark)) { layer := h.layer } s else s) :=
      ite_of_both (KeyboardKept.refl s).offer (.refl s)
    have held := offered k
    simp only [keyboard, Prod.mk.injEq] at held
    by_cases e : k = l
    · subst e; simp [keyboard, dropHeld, held]
    · simp [keyboard, e, held]

/-! ### The keys of a lane -/

/-- The keys of a lane section, with the lane state and the configuration: all that the law of held keys reads (R30, R43). -/
def keyView (L : Lane) : LaneState × LaneConfig × Vector KeyState 128 × List HeldKey := (L.run, L.cfg, L.keys, L.held)

/-- The keys of every lane are the same in two parts. -/
def KeysKept (s t : State) : Prop := ∀ k : LaneId, keyView (t.lane k) = keyView (s.lane k)

theorem KeyboardKept.keys {s t : State} (h : KeyboardKept s t) : KeysKept s t := by
  intro k
  have same := h k
  simp only [keyboard, Prod.mk.injEq] at same
  simp [keyView, same]

@[simp] theorem keyView_modPort (L : Lane) (p : PortId) (f : Port → Port) : keyView (L.modPort p f) = keyView L := by
  simp [keyView]

namespace KeysKept

variable {s t u : State}

theorem refl (s : State) : KeysKept s s := fun _ => rfl

theorem trans (h : KeysKept s t) (h' : KeysKept t u) : KeysKept s u := fun k => (h' k).trans (h k)

theorem of_lanes (h : t.lanes = s.lanes) : KeysKept s t := fun k => by rw [State.lane, h]; rfl

theorem modLane (h : KeysKept s t) {l : LaneId} {f : Lane → Lane} (hf : ∀ L, keyView (f L) = keyView L) :
    KeysKept s (t.modLane l f) := by
  intro k
  by_cases e : k = l
  · subst e; rw [State.lane_modLane_same, hf, h k]
  · rw [State.lane_modLane_other _ _ e, h k]

theorem modPort (h : KeysKept s t) {l : LaneId} {p : PortId} {f : Port → Port} : KeysKept s (t.modPort l p f) :=
  h.modLane fun _ => keyView_modPort ..

theorem modDrawer (h : KeysKept s t) {l : LaneId} {f : Drawer → Drawer} : KeysKept s (t.modDrawer l f) := h.modLane fun _ => rfl

theorem recompute (h : KeysKept s t) (old : State) : KeysKept s (recompute old t) := fun k => by
  rw [← h k]; simp [keyView]

theorem settle (h : KeysKept s t) : KeysKept s (settle t) := fun k => by rw [← h k, lane_settle]; rfl

theorem offer (h : KeysKept s t) {l : LaneId} {b : RecBody} {f : RecFlags} : KeysKept s (offer l b f t) :=
  h.trans (KeyboardKept.refl t).offer.keys

theorem lose (h : KeysKept s t) {l : LaneId} : KeysKept s (lose l t) := h.trans (KeyboardKept.refl t).lose.keys

theorem raise (h : KeysKept s t) {l : LaneId} {f : Byte} : KeysKept s (raise l f t) := h.modLane fun _ => rfl

theorem count (h : KeysKept s t) {l : LaneId} {c : Counter} : KeysKept s (count l c t) := h.modLane fun _ => rfl

theorem offerFault (h : KeysKept s t) {l : LaneId} {kind : FaultKind} {src : FaultSource} {n : Nat} :
    KeysKept s (offerFault l kind src n t) := h.modLane fun _ => rfl

theorem attemptChain (h : KeysKept s t) {l : LaneId} {delayed : Bool} : KeysKept s (attemptChain l delayed t) :=
  h.trans (KeyboardKept.refl t).attemptChain.keys

/-! #### A scanner port -/

theorem appendChar (h : KeysKept s t) {l : LaneId} {p : PortId} {c : ScanChar} : KeysKept s (appendChar l p c t) := by
  unfold Machine.appendChar
  dsimp only
  split
  · exact h.modPort
  · exact ite_of_both h.modPort h.modPort.offerFault

theorem deliverReply (h : KeysKept s t) {l : LaneId} {p : PortId} {code : List Byte} {damaged : Bool} :
    KeysKept s (deliverReply l p code damaged t) := by
  unfold Machine.deliverReply takeReply
  split
  · exact h.offer.raise.modPort
  · exact h.offer.raise.modPort
  · exact h.offerFault.modPort
  · exact h.offerFault

theorem enterSlot (h : KeysKept s t) {l : LaneId} {p : PortId} {code : List Byte} {damaged : Bool} :
    KeysKept s (enterSlot l p code damaged t) := by
  unfold Machine.enterSlot
  split
  · exact h.offerFault.lose
  · exact ite_of_both h.modPort.attemptChain h.modPort

theorem complete (h : KeysKept s t) {l : LaneId} {p : PortId} : KeysKept s (complete l p t) :=
  ite_of_both h.modPort.deliverReply h.modPort.enterSlot

theorem huntChar (h : KeysKept s t) {l : LaneId} {p : PortId} {c : ScanChar} : KeysKept s (huntChar l p c t) :=
  ite_of_both (ite_of_both h.modPort h) (ite_of_both h h.modPort.appendChar)

theorem assemblyChar (h : KeysKept s t) {l : LaneId} {p : PortId} {c : ScanChar} : KeysKept s (assemblyChar l p c t) :=
  ite_of_both (ite_of_both h.modPort h.complete) (ite_of_both h.offerFault.modPort h.appendChar)

theorem receiveChar (h : KeysKept s t) {l : LaneId} {p : PortId} {c : ScanChar} : KeysKept s (receiveChar l p c t) := by
  unfold Machine.receiveChar
  dsimp only
  split
  · exact h.modPort
  · split
    · exact h.modPort
    · exact h.modPort.huntChar
    · exact h.modPort.assemblyChar
    · exact ite_of_both h.modPort.modPort h.modPort.modPort

theorem gapExpires (h : KeysKept s t) {l : LaneId} {p : PortId} : KeysKept s (gapExpires l p t) :=
  ite_of_both (ite_of_both h.offerFault h).modPort h

theorem replyExpires (h : KeysKept s t) {l : LaneId} {p : PortId} : KeysKept s (replyExpires l p t) :=
  ite_of_both h.offer.offerFault.raise.modPort h

theorem takeGrowth (h : KeysKept s t) {l : LaneId} : KeysKept s (takeGrowth l t) := by
  have taken : KeysKept s (t.modLane l fun L => { L with growth := false }) := h.modLane fun _ => rfl
  exact ite_of_both taken.attemptChain h

/-! #### The drawer -/

theorem newDrawer (h : KeysKept s t) {l : LaneId} {f : Lane → Drawer} :
    KeysKept s (t.modLane l fun L => { L with drawer := f L }) := h.modLane fun _ => rfl

theorem openAtStart (h : KeysKept s t) {l : LaneId} : KeysKept s (openAtStart l t) := by
  unfold Machine.openAtStart
  exact h.offer.newDrawer

theorem openCommanded (h : KeysKept s t) {l : LaneId} : KeysKept s (openCommanded l t) := by
  unfold Machine.openCommanded
  exact h.offer.count.newDrawer

theorem openUncommanded (h : KeysKept s t) {l : LaneId} : KeysKept s (openUncommanded l t) := by
  unfold Machine.openUncommanded
  exact h.offer.count.count.raise.newDrawer

theorem closeDrawer (h : KeysKept s t) {l : LaneId} : KeysKept s (closeDrawer l t) := by
  unfold Machine.closeDrawer
  exact h.offer.modDrawer

theorem debounced (h : KeysKept s t) {l : LaneId} : KeysKept s (debounced l t) := by
  unfold Machine.debounced
  dsimp only
  split
  · exact h.modDrawer.modDrawer
  · exact h.modDrawer.openAtStart
  · exact h.modDrawer.openUncommanded
  · exact h.modDrawer.openCommanded
  · exact h.modDrawer.openCommanded
  · exact h.modDrawer.closeDrawer
  · exact h.modDrawer.closeDrawer
  all_goals exact h.modDrawer

theorem takeDebounced (h : KeysKept s t) {l : LaneId} : KeysKept s (takeDebounced l t) := ite_of_both h.debounced h

theorem pulseExpires (h : KeysKept s t) {l : LaneId} : KeysKept s (pulseExpires l t) := ite_of_both h.modDrawer h

theorem retryExpires (h : KeysKept s t) {l : LaneId} : KeysKept s (retryExpires l t) :=
  ite_of_both h (ite_of_both h.modDrawer h.modDrawer.offer.offerFault.count.raise)

theorem openExpires (h : KeysKept s t) {l : LaneId} : KeysKept s (openExpires l t) :=
  ite_of_both h.offer.raise.modDrawer h

theorem abortKick (h : KeysKept s t) {l : LaneId} : KeysKept s (abortKick l t) :=
  ite_of_both h.modDrawer.offer.raise.modDrawer h

theorem assertInhibit (h : KeysKept s t) {order : List LaneId} : KeysKept s (assertInhibit order t) := by
  have aborts : ∀ (ls : List LaneId) {u : State}, KeysKept s u → KeysKept s (ls.foldl (fun t l => Machine.abortKick l t) u) := by
    intro ls
    induction ls with
    | nil => exact fun h => h
    | cons l ls ih => exact fun h => ih h.abortKick
  exact ite_of_both h (aborts _ (h.trans (.of_lanes rfl)))

theorem senseLevel (h : KeysKept s t) {l : LaneId} {high : Bool} : KeysKept s (senseLevel l high t) :=
  h.modLane fun L => ite_of_both (P := fun L' => keyView L' = keyView L) rfl rfl

end KeysKept
end Sys2Proof.Machine
end

section
/-! PROOFS. What one visit of the walk of a sample pass does (R20, R24 to R34): the transition of Table 2-2, and its hand-over. -/

namespace Sys2Proof.Machine

/-- Everything a debounce transition can do to a key as held or released (Table 2-2): complete a press, complete a release, or leave
the key held or released as it was, a blocking episode begun only where the state moves. -/
theorem keyTransition_cases (cls : KeyClass) (d u : Nat) (room closed : Bool) (k : KeyState) :
    (keyTransition cls d u room closed k = (.down, .press) ∧ heldState k = false ∧ cls ≠ .ignore ∧
        (cls = .lockContact ∨ room = true)) ∨
      (keyTransition cls d u room closed k = (.up, .release) ∧ heldState k = true) ∨
      ∃ k', heldState k' = heldState k ∧
        (keyTransition cls d u room closed k = (k', .quiet) ∨ keyTransition cls d u room closed k = (k', .blocked) ∧ k' ≠ k) := by
  cases k with
  | up =>
    simp only [keyTransition, pressCompletes]
    split
    · exact .inr (.inr ⟨.up, rfl, .inl rfl⟩)
    · rename_i h
      have hcls : cls ≠ .ignore := by rintro rfl; simp at h
      split
      · split
        · rename_i room
          exact .inl ⟨rfl, rfl, hcls, by simpa using room⟩
        · exact .inr (.inr ⟨.pressPending d true, rfl, .inr ⟨rfl, nofun⟩⟩)
      · exact .inr (.inr ⟨.pressPending 1 false, rfl, .inl rfl⟩)
  | pressPending n waits =>
    simp only [keyTransition, pressCompletes]
    split
    · exact .inr (.inr ⟨.up, rfl, .inl rfl⟩)
    · rename_i h
      have hcls : cls ≠ .ignore := by rintro rfl; simp at h
      split
      · split
        · rename_i room
          exact .inl ⟨rfl, rfl, hcls, by simpa using room⟩
        · cases waits with
          | true => exact .inr (.inr ⟨.pressPending d true, rfl, .inl rfl⟩)
          | false => exact .inr (.inr ⟨.pressPending d true, rfl, .inr ⟨rfl, by simp⟩⟩)
      · exact .inr (.inr ⟨.pressPending (n + 1) false, rfl, .inl rfl⟩)
  | down =>
    simp only [keyTransition]
    split
    · exact .inr (.inr ⟨.down, rfl, .inl rfl⟩)
    · split
      · exact .inr (.inl ⟨rfl, rfl⟩)
      · exact .inr (.inr ⟨.releasePending 1, rfl, .inl rfl⟩)
  | releasePending n =>
    simp only [keyTransition]
    split
    · exact .inr (.inr ⟨.down, rfl, .inl rfl⟩)
    · split
      · exact .inr (.inl ⟨rfl, rfl⟩)
      · exact .inr (.inr ⟨.releasePending (n + 1), rfl, .inl rfl⟩)

/-- The transitions of the walk are those of Table 2-2. -/
theorem walkStep_cases (L : Lane) (closed : BitVec 128) (p : Nat) :
    (walkStep L closed p = (.down, .press) ∧ heldState (keyAt L p) = false ∧ (keymapAt L p).cls ≠ .ignore ∧
        ((keymapAt L p).cls = .lockContact ∨ rolloverCount L < L.cfg.rollover)) ∨
      (walkStep L closed p = (.up, .release) ∧ heldState (keyAt L p) = true) ∨
      ∃ k', heldState k' = heldState (keyAt L p) ∧
        (walkStep L closed p = (k', .quiet) ∨ walkStep L closed p = (k', .blocked) ∧ k' ≠ keyAt L p) := by
  have cases := keyTransition_cases (keymapAt L p).cls L.cfg.pressCount L.cfg.releaseCount
    (decide (rolloverCount L < L.cfg.rollover)) (effectiveClosed L.cfg closed p (keyAt L p)) (keyAt L p)
  rwa [decide_eq_true_eq] at cases

/-- A position that keeps its state hands over nothing. -/
theorem walkStep_quiet_of_same {L : Lane} {closed : BitVec 128} {p : Nat} (same : (walkStep L closed p).1 = keyAt L p) :
    (walkStep L closed p).2 = .quiet := by
  obtain ⟨e, released, -⟩ | ⟨e, held⟩ | ⟨k', -, e | ⟨e, moved⟩⟩ := walkStep_cases L closed p <;> rw [e] at same ⊢
  · simp [← same, heldState] at released
  · simp [← same, heldState] at held
  · exact absurd same moved

/-- A lane section with the debounce state of a position set. -/
def setKey (p : Nat) (k : KeyState) (L : Lane) : Lane := { L with keys := L.keys.setIfInBounds p k }

theorem setKey_keyAt (L : Lane) (p : Nat) : setKey p (keyAt L p) L = L := by
  have same : L.keys.setIfInBounds p (keyAt L p) = L.keys := by
    apply Vector.ext
    intro i hi
    by_cases e : p = i
    · subst e; simp [keyAt, hi]
    · simp [Vector.getElem_setIfInBounds_ne, e]
  simp only [setKey, same]

theorem keyAt_setKey (L : Lane) (p q : Nat) (k : KeyState) :
    keyAt (setKey p k L) q = if q = p ∧ p < 128 then k else keyAt L q := by
  by_cases e : q = p
  · subst e
    by_cases hq : q < 128 <;> simp [keyAt, setKey, hq]
  · have e' : p ≠ q := fun h => e h.symm
    simp [keyAt, setKey, e, Vector.getElem?_setIfInBounds_ne e']

/-- A visit of the walk sets the position's state and hands its transition over (R20, R34). -/
theorem visit_eq (l : LaneId) (closed : BitVec 128) (s : State) (p : Nat) :
    visit l closed s p =
      handOver l p (walkStep (s.lane l) closed p).2 (s.modLane l (setKey p (walkStep (s.lane l) closed p).1)) := by
  unfold visit
  dsimp only
  split
  case isTrue same =>
    rw [walkStep_quiet_of_same same, same]
    show s = s.modLane l _
    rw [State.modLane_congr (g := id) (setKey_keyAt ..), State.modLane_self]
  case isFalse => rfl

end Sys2Proof.Machine
end

section
/-! PROOFS. O58: the held-key list holds exactly the positions whose press has been handed over and whose release has not (R43),
and the counted keys stay within the rollover limit (R30). A visit of the walk is one of three moves of the keys of its lane: a
state that stays held or stays released, a press that joins the list, a release that leaves it. Outside a pass only a lane that
holds no key changes its list or its limit. -/

namespace Sys2Proof.Machine

/-! ### The law of one lane section -/

/-- What R30 and R43 say of one lane section. -/
def LaneHeld (L : Lane) : Prop :=
  (L.held.map HeldKey.pos).Nodup ∧
    (∀ h ∈ L.held, h.pos < 128 ∧ heldState (keyAt L h.pos) = true) ∧
    (∀ p : Fin 128, heldState (keyAt L p.val) = true → ∃ h ∈ L.held, h.pos = p.val) ∧
    rolloverCount L ≤ L.cfg.rollover

theorem heldLaw_iff (s : State) : HeldLaw s ↔ ∀ l : LaneId, LaneHeld (s.lane l) := Iff.rfl

theorem LaneHeld.of_keyView {L L' : Lane} (e : keyView L' = keyView L) (h : LaneHeld L) : LaneHeld L' := by
  simp only [keyView, Prod.mk.injEq] at e
  obtain ⟨-, hcfg, hkeys, hheld⟩ := e
  simpa only [LaneHeld, keyAt, rolloverCount, hcfg, hkeys, hheld] using h

/-- A lane with every position UP and no held key. -/
theorem laneHeld_of_clear {L : Lane} (hkeys : L.keys = Vector.replicate 128 .up) (hheld : L.held = []) : LaneHeld L := by
  simp [LaneHeld, rolloverCount, keyAt, hkeys, hheld, heldState]

/-- What a step must keep in a lane section: the law, and that a READY lane holds no key (R1), so that a new limit is kept. -/
def HeldRight (L : Lane) : Prop := (L.run = .ready → L.held = []) ∧ LaneHeld L

theorem HeldRight.of_keyView {L L' : Lane} (e : keyView L' = keyView L) (h : HeldRight L) : HeldRight L' := by
  refine ⟨?_, h.2.of_keyView e⟩
  simp only [keyView, Prod.mk.injEq] at e
  obtain ⟨hrun, -, -, hheld⟩ := e
  rw [hrun, hheld]
  exact h.1

/-! ### The three moves of a visit -/

theorem rolloverCount_append (L : Lane) (h : HeldKey) :
    rolloverCount { L with held := L.held ++ [h] } = rolloverCount L + (isKeyClass h.cls).toNat := by
  cases e : isKeyClass h.cls <;> simp [rolloverCount, e]

/-- A position that stays held, or stays released, keeps the law. -/
theorem LaneHeld.sameHeld {L : Lane} (h : LaneHeld L) {p : Nat} {k : KeyState} (same : heldState k = heldState (keyAt L p)) :
    LaneHeld (setKey p k L) := by
  have states : ∀ q, heldState (keyAt (setKey p k L) q) = heldState (keyAt L q) := fun q => by
    rw [keyAt_setKey]
    split
    · rename_i e; rw [same, e.1]
    · rfl
  obtain ⟨nodup, listed, found, limit⟩ := h
  exact ⟨nodup, fun h hh => by rw [states]; exact listed h hh, fun q hq => found q (by rwa [states] at hq), limit⟩

/-- A position that goes DOWN as its press joins the held-key list, with room for it if it is counted. -/
theorem LaneHeld.join {L : Lane} (h : LaneHeld L) {p : Nat} (hp : p < 128) (released : heldState (keyAt L p) = false)
    {e : HeldKey} (hpos : e.pos = p) (room : isKeyClass e.cls = true → rolloverCount L < L.cfg.rollover) :
    LaneHeld { setKey p .down L with held := L.held ++ [e] } := by
  obtain ⟨nodup, listed, found, limit⟩ := h
  have fresh : ∀ k ∈ L.held, k.pos ≠ p := fun k hk e => by
    have := (listed k hk).2
    simp [e, released] at this
  refine ⟨?_, fun k hk => ?_, fun q hq => ?_, ?_⟩
  · rw [List.map_append, List.map_singleton, hpos, ← List.concat_eq_append]
    exact nodup.concat (by simpa using fresh)
  · show k.pos < 128 ∧ heldState (keyAt (setKey p .down L) k.pos) = true
    rw [keyAt_setKey]
    obtain hk | hk := List.mem_append.mp hk
    · simpa [fresh k hk] using listed k hk
    · rw [List.mem_singleton.mp hk, hpos]
      simp [hp, heldState]
  · change heldState (keyAt (setKey p .down L) q) = true at hq
    rw [keyAt_setKey] at hq
    by_cases e' : q.val = p
    · exact ⟨e, by simp, by rw [hpos, e']⟩
    · obtain ⟨k, hk, hkq⟩ := found q (by simpa [e'] using hq)
      exact ⟨k, List.mem_append_left _ hk, hkq⟩
  · refine (rolloverCount_append (setKey p .down L) e).trans_le ?_
    show rolloverCount L + _ ≤ L.cfg.rollover
    cases hc : isKeyClass e.cls
    · simpa using limit
    · simpa using room hc

/-- A position that goes UP as its entry leaves the held-key list. -/
theorem LaneHeld.leave {L : Lane} (h : LaneHeld L) (p : Nat) :
    LaneHeld (dropHeld p (setKey p .up L)) := by
  obtain ⟨nodup, listed, found, limit⟩ := h
  refine ⟨nodup.sublist (List.filter_sublist.map _), fun k hk => ?_, fun q hq => ?_, ?_⟩
  · obtain ⟨hk, hkp⟩ := List.mem_filter.mp hk
    have hkp' : k.pos ≠ p := by simpa using hkp
    show k.pos < 128 ∧ heldState (keyAt (setKey p .up L) k.pos) = true
    rw [keyAt_setKey, if_neg fun e => hkp' e.1]
    exact listed k hk
  · change heldState (keyAt (setKey p .up L) q) = true at hq
    rw [keyAt_setKey] at hq
    by_cases e : q.val = p
    · rw [if_pos ⟨e, e ▸ q.isLt⟩] at hq
      exact absurd hq (by decide)
    · obtain ⟨k, hk, hkq⟩ := found q (by simpa [e] using hq)
      exact ⟨k, List.mem_filter.mpr ⟨hk, by simpa [hkq] using e⟩, hkq⟩
  · exact (List.filter_sublist.filter _).length_le.trans limit

/-- A visit of the walk keeps the law of its lane. -/
theorem LaneHeld.visit {l : LaneId} {s : State} (h : LaneHeld (s.lane l)) (closed : BitVec 128) {p : Nat} (hp : p < 128) :
    LaneHeld ((visit l closed s p).lane l) := by
  rw [visit_eq]
  obtain ⟨e, released, -, room⟩ | ⟨e, -⟩ | ⟨k', same, e | ⟨e, -⟩⟩ := walkStep_cases (s.lane l) closed p <;> rw [e]
  · refine .of_keyView ((KeyboardKept.press l p _).keys l) ?_
    rw [State.lane_modLane_same, State.lane_modLane_same]
    refine h.join hp released (pressEntry_pos ..) fun key => ?_
    rw [pressEntry_cls] at key
    obtain lock | room := room
    · exact absurd (lock ▸ key : isKeyClass .lockContact = true) (by decide)
    · exact room
  · refine .of_keyView ((KeyboardKept.release l p _).keys l) ?_
    rw [State.lane_modLane_same, State.lane_modLane_same]
    exact h.leave p
  · show LaneHeld ((s.modLane l _).lane l)
    rw [State.lane_modLane_same]
    exact h.sameHeld same
  · refine .of_keyView (KeysKept.count (.refl (s.modLane l (setKey p k'))) l) ?_
    rw [State.lane_modLane_same]
    exact h.sameHeld same

theorem LaneHeld.walk {l : LaneId} {s : State} (h : LaneHeld (s.lane l)) (closed : BitVec 128) :
    LaneHeld ((walk l closed s).lane l) := by
  have visits : ∀ (ps : List Nat) {t : State}, (∀ p ∈ ps, p < 128) → LaneHeld (t.lane l) →
      LaneHeld ((ps.foldl (Machine.visit l closed) t).lane l) := by
    intro ps
    induction ps with
    | nil => exact fun _ ht => ht
    | cons p ps ih =>
      intro t hps ht
      rw [List.forall_mem_cons] at hps
      exact ih hps.2 (ht.visit closed hps.1)
  exact visits _ (fun p hp => List.mem_range.mp hp) h

theorem KeysKept.ghostAnalysis (l : LaneId) (closed : BitVec 128) (s : State) : KeysKept s (ghostAnalysis l closed s) := by
  have marked : ∀ g, KeysKept s (s.modLane l fun L => { L with ghost := g }) := fun g => (KeysKept.refl s).modLane fun _ => rfl
  unfold Machine.ghostAnalysis
  dsimp only
  split
  · exact marked false
  · exact ite_of_both (.refl s) (marked true).count.offerFault

theorem LaneHeld.samplePass {l : LaneId} {s : State} (h : LaneHeld (s.lane l)) (closed : BitVec 128) :
    LaneHeld ((samplePass l closed s).lane l) := by
  unfold Machine.samplePass
  split
  · have begun : KeysKept s (s.modLane l (nextPass closed)) := (KeysKept.refl s).modLane fun _ => rfl
    have analysed := begun.trans (KeysKept.ghostAnalysis l closed _)
    exact ((h.of_keyView (analysed l)).walk closed).of_keyView ((KeyboardKept.refl _).notice.keys l)
  · exact h

/-! ### The other lanes of a pass, and the lane state of its own -/

/-- A part that a pass of lane `l` has made of another: the lane state of `l`, and the keys of the other lanes, are as they were. -/
def PassedFrom (l : LaneId) (s t : State) : Prop :=
  (t.lane l).run = (s.lane l).run ∧ ∀ k, k ≠ l → keyView (t.lane k) = keyView (s.lane k)

theorem keptByWork_passedFrom (l : LaneId) (s : State) : KeptByWork l Lane.run (PassedFrom l s) where
  change t f hf := by
    rintro ⟨hl, hk⟩
    exact ⟨by simp [hf, hl], fun k e => by simp [e, hk k e]⟩
  admission t r := by
    rintro ⟨hl, hk⟩
    exact ⟨by rw [← hl]; simp [lane_admit], fun k e => by rw [← hk k e]; simp [lane_admit, e, keyView]⟩

theorem passedFrom_samplePass (l : LaneId) (closed : BitVec 128) (s : State) : PassedFrom l s (samplePass l closed s) := by
  have kept := keptByWork_passedFrom l s
  unfold samplePass
  split
  · exact kept.passWork (fun _ _ hrun _ _ => hrun) closed (kept.change s (nextPass closed) rfl ⟨rfl, fun _ _ => rfl⟩)
  · exact ⟨rfl, fun _ _ => rfl⟩

/-! ### Every step -/

/-- A change of the part keeps the keys right in every lane. -/
def HeldKept (s t : State) : Prop := ∀ l : LaneId, HeldRight (s.lane l) → HeldRight (t.lane l)

theorem HeldKept.of_keys {s t : State} (h : KeysKept s t) : HeldKept s t := fun l hl => hl.of_keyView (h l)

theorem HeldKept.refl (s : State) : HeldKept s s := fun _ h => h

theorem HeldKept.trans {s t u : State} (h : HeldKept s t) (h' : HeldKept t u) : HeldKept s u := fun l hl => h' l (h l hl)

theorem HeldKept.of_lanes {s t : State} (h : t.lanes = s.lanes) : HeldKept s t := .of_keys (.of_lanes h)

theorem HeldKept.settle (s : State) : HeldKept s (settle s) := .of_keys (KeysKept.refl s).settle

theorem HeldKept.modLane {s : State} {l : LaneId} {f : Lane → Lane} (h : HeldRight (s.lane l) → HeldRight (f (s.lane l))) :
    HeldKept s (s.modLane l f) := by
  intro k hk
  by_cases e : k = l
  · subst e; rw [State.lane_modLane_same]; exact h hk
  · rwa [State.lane_modLane_other _ _ e]

/-- A lane that ends with every position UP and no held key is right, whatever it was. -/
theorem heldRight_of_clear {L : Lane} (hkeys : L.keys = Vector.replicate 128 .up) (hheld : L.held = []) : HeldRight L :=
  ⟨fun _ => hheld, laneHeld_of_clear hkeys hheld⟩

theorem HeldKept.samplePass (l : LaneId) (closed : BitVec 128) (s : State) : HeldKept s (samplePass l closed s) := by
  obtain ⟨hrun, others⟩ := passedFrom_samplePass l closed s
  intro k hk
  by_cases e : k = l
  · subst e
    obtain ⟨atRest, held⟩ := hk
    refine ⟨fun hr => ?_, held.samplePass closed⟩
    rw [hrun] at hr
    have idle : Machine.samplePass k closed s = s := by simp [Machine.samplePass, passDue, hr]
    rw [idle]
    exact atRest hr
  · exact hk.of_keyView (others k e)

/-! #### The requests -/

/-- A request keeps the keys right. -/
def KeepsHeld (serve : Request) : Prop := ∀ body s, HeldKept s (serve body s).1

theorem keepsHeld_withLane {n : Nat} {serve : LaneId → Request} (h : ∀ l, KeepsHeld (serve l)) : KeepsHeld (withLane n serve) := by
  intro body s
  obtain ⟨l, e⟩ | ⟨r, e⟩ := withLane_cases n serve body s
  · exact e ▸ h l body s
  · exact e ▸ .refl s

theorem keepsHeld_withScope {n : Nat} {serve : Scope → Request} (h : ∀ scope, KeepsHeld (serve scope)) :
    KeepsHeld (withScope n serve) := by
  intro body s
  obtain ⟨l, e⟩ | ⟨r, e⟩ := withScope_cases n serve body s
  · exact e ▸ h l body s
  · exact e ▸ .refl s

theorem keepsHeld_withLength {n : Nat} {serve : Request} (h : KeepsHeld serve) : KeepsHeld (withLength n serve) := by
  intro body s
  obtain e | ⟨r, e⟩ := withLength_cases n serve body s
  · exact e ▸ h body s
  · exact e ▸ .refl s

/-- A change of a lane section that is not one of its keys, its lane state or its configuration. -/
theorem HeldKept.modLane_keyView {s : State} {l : LaneId} {f : Lane → Lane} (h : ∀ L, keyView (f L) = keyView L) :
    HeldKept s (s.modLane l f) := .of_keys ((KeysKept.refl s).modLane h)

/-! The requests that leave every lane section as it is. -/

theorem keepsHeld_identify : KeepsHeld serveIdentify := keepsHeld_withLength fun _ s => .refl s
theorem keepsHeld_getTime : KeepsHeld serveGetTime := keepsHeld_withLength fun _ s => .refl s
theorem keepsHeld_setTime : KeepsHeld serveSetTime := keepsHeld_withLength fun _ s => by
  split
  · exact .refl s
  · exact .of_lanes rfl

theorem keepsHeld_resetDevice : KeepsHeld serveResetDevice := keepsHeld_withLength fun _ _ => .of_lanes rfl

theorem keepsHeld_filterConfig : KeepsHeld serveFilterConfig := keepsHeld_withLength fun _ s => by
  dsimp only
  split
  · exact .refl s
  · exact .of_lanes rfl

theorem keepsHeld_symbologyWrite : KeepsHeld serveSymbologyWrite := by
  intro body s
  unfold serveSymbologyWrite
  dsimp only
  split
  · exact .refl s
  · split
    · exact .refl s
    · split
      · exact .refl s
      · exact .of_lanes rfl

theorem keepsHeld_keymapRead : KeepsHeld serveKeymapRead := keepsHeld_withLane fun _ _ s => by
  dsimp only
  split <;> exact .refl s

theorem keepsHeld_unknown : KeepsHeld serveUnknown := fun _ s => .refl s

/-! The requests that change a lane section, its keys apart. -/

theorem keepsHeld_linesSet : KeepsHeld serveLinesSet := keepsHeld_withLane fun _ _ s => by
  dsimp only
  split
  · exact .refl s
  · exact .modLane_keyView fun _ => rfl

theorem keepsHeld_linesDir : KeepsHeld serveLinesDir := keepsHeld_withLane fun _ _ s => by
  dsimp only
  split
  · exact .refl s
  · exact .modLane_keyView fun _ => rfl

theorem keepsHeld_linesRead (outside : Outside) : KeepsHeld (serveLinesRead outside) := keepsHeld_withLane fun _ _ _ =>
  .modLane_keyView fun _ => rfl

theorem keepsHeld_keymapWrite : KeepsHeld serveKeymapWrite := by
  intro body s
  unfold serveKeymapWrite
  dsimp only
  split
  · split
    · split <;> exact .refl s
    · exact .refl s
  · refine keepsHeld_withLane (fun l body s => ?_) body s
    split
    · exact .refl s
    · split
      · exact .refl s
      · split
        · exact .refl s
        · exact .modLane_keyView fun _ => rfl

theorem keepsHeld_portConfig : KeepsHeld servePortConfig := keepsHeld_withLane fun _ _ s => by
  split
  · split
    · exact .refl s
    · split
      · exact .refl s
      · exact .of_keys (KeysKept.refl s).modPort
  · exact .refl s

theorem keepsHeld_scannerSend : KeepsHeld serveScannerSend := by
  intro body s
  unfold serveScannerSend
  dsimp only
  split
  · split
    · split <;> exact .refl s
    · exact .refl s
  · refine keepsHeld_withLane (fun l body s => ?_) body s
    split
    · exact .refl s
    · split
      · exact .refl s
      · split
        · exact .refl s
        · exact .of_keys (KeysKept.refl s).modPort

theorem keepsHeld_forget : KeepsHeld serveForget := keepsHeld_withLane fun _ _ s =>
  .of_keys (KeyboardKept.refl s).clearRecent.keys

theorem HeldKept.removeOldest (l : LaneId) (n : Nat) (s : State) : HeldKept s (removeOldest l n s) := by
  have taken : KeysKept s (s.modLane l fun L => { L with queue := L.queue.drop n }) := (KeysKept.refl s).modLane fun _ => rfl
  exact ite_of_both (.refl s) (.of_keys (taken.recompute s))

theorem keepsHeld_fetch : KeepsHeld serveFetch := keepsHeld_withLane fun l _ s => .removeOldest l _ s
theorem keepsHeld_purge : KeepsHeld servePurge := keepsHeld_withLane fun l _ s => .removeOldest l _ s

theorem keepsHeld_drawerConfig : KeepsHeld serveDrawerConfig := keepsHeld_withLane fun l _ s => by
  dsimp only
  split
  · exact .refl s
  · have written : ∀ f : Lane → Drawer, KeysKept s (s.modLane l fun L => { L with drawer := f L }) := fun _ =>
      (KeysKept.refl s).newDrawer
    exact .of_keys (written _).takeDebounced

theorem keepsHeld_kick : KeepsHeld serveKick := keepsHeld_withLane fun _ _ s => by
  split
  · exact .refl s
  · exact .of_keys (KeysKept.refl s).modDrawer

theorem keepsHeld_status : KeepsHeld serveStatus := keepsHeld_withScope fun scope _ s => by
  cases scope with
  | lane l => exact .modLane_keyView fun _ => rfl
  | device => exact .of_lanes rfl

theorem keepsHeld_ackFlags : KeepsHeld serveAckFlags := keepsHeld_withScope fun scope _ s => by
  dsimp only
  split
  · exact .refl s
  · cases scope with
    | lane l => exact .modLane_keyView fun _ => rfl
    | device =>
      refine .of_lanes ?_
      dsimp only [ackDevice]
      split <;> rfl

theorem keepsHeld_attnMask : KeepsHeld serveAttnMask := keepsHeld_withScope fun scope _ s => by
  split
  · exact .refl s
  · cases scope with
    | lane l => exact .modLane_keyView fun _ => rfl
    | device => exact .of_lanes rfl

theorem keepsHeld_clearFault : KeepsHeld serveClearFault := keepsHeld_withLane fun _ _ _ => .modLane_keyView fun _ => rfl

theorem keepsHeld_latchCounters : KeepsHeld serveLatchCounters := keepsHeld_withLength fun body s => by
  split
  · exact .refl s
  · refine .of_keys fun l => ?_
    rw [State.lane_mapLanes, latchLane]
    split <;> rfl

theorem keepsHeld_readCounters : KeepsHeld serveReadCounters := keepsHeld_withLane fun _ _ s => by
  dsimp only
  split
  · exact .modLane_keyView fun _ => rfl
  · exact .refl s

theorem keepsHeld_clearCounters : KeepsHeld serveClearCounters := keepsHeld_withLane fun _ _ _ => .modLane_keyView fun _ => rfl

/-! The requests that set the keys, the lane state or the rollover limit of a lane. -/

/-- A new limit is set in a READY lane alone, which counts no key (R7, R30). -/
theorem keepsHeld_laneConfig : KeepsHeld serveLaneConfig := keepsHeld_withLane fun l _ s => by
  dsimp only
  split
  · exact .refl s
  · split
    · exact .refl s
    · split
      · exact .refl s
      · rename_i stopped _
        have hr : (s.lane l).run = .ready := by
          cases h : (s.lane l).run
          · rfl
          · exact absurd h stopped
        have configured : ∀ c, HeldKept s (withConfig l c s) := fun c => HeldKept.modLane fun ⟨atRest, held⟩ => by
          have none := atRest hr
          obtain ⟨nodup, listed, found, -⟩ := held
          exact ⟨atRest, nodup, listed, found, by simp [rolloverCount, none]⟩
        exact (configured _).trans (.of_keys ((KeysKept.refl _).recompute s))

theorem keepsHeld_start : KeepsHeld serveStart := keepsHeld_withLane fun l _ s => by
  split
  · exact .refl s
  · exact (HeldKept.modLane fun _ => heldRight_of_clear rfl rfl).trans (.of_keys (KeysKept.refl _).offer)

theorem HeldKept.stopLane (l : LaneId) (s : State) : HeldKept s (stopLane l s) := by
  have halted : HeldKept s (s.modLane l haltedLane) := .modLane fun _ => heldRight_of_clear rfl rfl
  have clear : LaneHalted ((s.modLane l haltedLane).lane l) := by
    rw [State.lane_modLane_same]; exact laneHalted_haltedLane _
  have rest : ∀ {L : Lane}, LaneHalted L → HeldRight (leaveRunning L) := fun ⟨_, _, hkeys, _, hheld, _⟩ =>
    heldRight_of_clear hkeys hheld
  have aborted : ∀ b f, KeysKept (s.modLane l haltedLane) (offer l b f (s.modLane l haltedLane)) := fun _ _ =>
    (KeysKept.refl _).offer
  intro k hk
  rw [stopLane_eq]
  by_cases e : k = l
  · subst e
    rw [State.lane_modLane_same]
    split
    · exact rest (laneHalted_offer clear)
    · exact rest clear
  · rw [State.lane_modLane_other _ _ e]
    split
    · exact (halted k hk).of_keyView (aborted _ _ k)
    · exact halted k hk

theorem keepsHeld_stop : KeepsHeld serveStop := keepsHeld_withLane fun l _ s => by
  split
  · exact .stopLane l s
  · exact .refl s

theorem keepsHeld_resetLane : KeepsHeld serveResetLane := keepsHeld_withLane fun _ _ s =>
  (HeldKept.modLane fun _ => heldRight_of_clear rfl rfl).trans (.of_keys ((KeysKept.refl _).recompute s))

/-- Every block of the dispatcher keeps the keys right. -/
theorem keepsHeld_served (outside : Outside) : ∀ serve ∈ servedBlocks outside, KeepsHeld serve := by
  simp only [servedBlocks, List.forall_mem_cons]
  exact ⟨keepsHeld_identify, keepsHeld_getTime, keepsHeld_setTime, keepsHeld_resetDevice, keepsHeld_laneConfig, keepsHeld_start,
    keepsHeld_stop, keepsHeld_resetLane, keepsHeld_linesSet, keepsHeld_linesDir, keepsHeld_linesRead outside, keepsHeld_keymapWrite,
    keepsHeld_keymapRead, keepsHeld_portConfig, keepsHeld_scannerSend, keepsHeld_filterConfig, keepsHeld_symbologyWrite,
    keepsHeld_forget, keepsHeld_fetch, keepsHeld_purge, keepsHeld_drawerConfig, keepsHeld_kick, keepsHeld_status, keepsHeld_ackFlags,
    keepsHeld_attnMask, keepsHeld_clearFault, keepsHeld_latchCounters, keepsHeld_readCounters, keepsHeld_clearCounters,
    keepsHeld_unknown, nofun⟩

/-! #### Frames, events and resets -/

theorem HeldKept.request (outside : Outside) (kind : Byte) (body : List Byte) (s : State) :
    HeldKept s (goodFrame (requestOf outside kind) kind body s) :=
  ite_of_both (.refl s) (ite_of_both (.of_lanes rfl)
    ((keepsHeld_served outside _ (requestOf_mem outside kind) body s).trans (.of_lanes rfl)))

theorem HeldKept.frameCompletes (outside : Outside) (kind : Byte) (body : List Byte) (s : State) :
    HeldKept s (frameCompletes (requestOf outside kind) kind body s) := by
  refine HeldKept.trans ?_ (.request outside kind body _)
  exact .of_lanes rfl

theorem HeldKept.takeChars (run : LineRun) (s : State) : HeldKept s (takeChars run s) := by
  have hunted : ∀ fuel chars t, HeldKept s t → HeldKept s (hunt run.outside fuel chars t) :=
    hunt_keeps (fun t _ h => h.trans (.of_lanes rfl)) (fun t h => h.trans (.of_lanes rfl))
      fun kind body t h => (h.trans (.request _ kind body t)).trans (.settle _)
  unfold Machine.takeChars
  split
  · exact .refl s
  · have given := hunted (heldChars s.rx ++ if s.lineDrop then run.chars.drop 1 else run.chars).length
      (heldChars s.rx ++ if s.lineDrop then run.chars.drop 1 else run.chars) { s with lineStart := false, lineDrop := false }
      (.of_lanes rfl)
    exact given.trans (.of_lanes rfl)

theorem HeldKept.resetAll (straps : BitVec 2) (s : State) : HeldKept s (resetAll straps s) := fun l _ => by
  rw [lane_resetAll]
  exact heldRight_of_clear rfl rfl

theorem KeysKept.idle (s : State) : KeysKept s (idle s) := by
  obtain ⟨-, e⟩ | ⟨-, -, e⟩ | ⟨-, -, e⟩ := idle_cases s <;> rw [e]
  · intro l
    rw [lane_driveRows]
    split <;> rfl
  · exact .of_lanes rfl
  · exact .of_lanes rfl

/-- What every command does before the outputs are judged. -/
theorem exec_heldKept (i : Instr) (s : State) : ∃ t, exec i s = done t ∧ HeldKept s t := by
  cases h : requestFrame i with
  | some frame =>
    obtain ⟨kind, body⟩ := frame
    obtain ⟨outside, e⟩ := exec_frame h s
    exact ⟨_, e, .frameCompletes outside kind body s⟩
  | none =>
    have kept := KeysKept.refl s
    cases i
    case badFrame run => exact ⟨_, rfl, .takeChars run s⟩
    case gapLimitExpiry => exact ⟨_, rfl, ite_of_both (.of_lanes rfl) (.refl s)⟩
    case replySent => exact ⟨_, rfl, .of_lanes rfl⟩
    case resetDeviceActs straps => exact ⟨_, rfl, ite_of_both (.resetAll straps s) (.refl s)⟩
    case powerOnReset straps => exact ⟨_, rfl, .resetAll straps s⟩
    case samplePassEnd l closed => exact ⟨_, rfl, .samplePass l closed s⟩
    case scannerCharacterReceived l p c => exact ⟨_, rfl, .of_keys kept.receiveChar⟩
    case gapTimerExpiry l p => exact ⟨_, rfl, .of_keys kept.gapExpires⟩
    case growthReport l => exact ⟨_, rfl, .of_keys kept.takeGrowth⟩
    case transmitByteSent l p => exact ⟨_, rfl, .of_keys kept.modPort⟩
    case replyTimerExpiry l p => exact ⟨_, rfl, .of_keys kept.replyExpires⟩
    case rawSensorChange l high => exact ⟨_, rfl, .of_keys kept.senseLevel⟩
    case debouncedChange l => exact ⟨_, rfl, .of_keys kept.takeDebounced⟩
    case pulseTimerExpiry l => exact ⟨_, rfl, .of_keys kept.pulseExpires⟩
    case retryTimerExpiry l => exact ⟨_, rfl, .of_keys kept.retryExpires⟩
    case openTimerExpiry l => exact ⟨_, rfl, .of_keys kept.openExpires⟩
    case inhNAsserted order => exact ⟨_, rfl, .of_keys kept.assertInhibit⟩
    case inhNReleased => exact ⟨_, rfl, .of_lanes rfl⟩
    case scannerStartBit l p => exact ⟨_, rfl, .of_keys kept.modPort⟩
    case systemLineStartBit => exact ⟨_, rfl, .of_lanes rfl⟩
    all_goals cases h

/-- Every step keeps the keys right. -/
theorem step_heldKept {s t : State} (h : step s = .next t) : HeldKept s t := by
  unfold step at h
  split at h
  · cases h
    exact .of_keys (.idle s)
  · rename_i i rest _
    obtain ⟨u, e, kept⟩ := exec_heldKept i { s with pending := rest }
    cases e.symm.trans h
    exact HeldKept.trans (.of_lanes rfl) (kept.trans (.settle u))

/-- Settles O58: every step keeps the held-key list and the rollover limit. -/
theorem heldKeysLawKept : Obligations.HeldKeysLawKept := by
  intro s t held ready h
  refine (heldLaw_iff t).mpr fun l => (step_heldKept h l ⟨fun hr => ?_, (heldLaw_iff s).mp held l⟩).2
  obtain ⟨-, -, -, -, none, -⟩ := (readyLaw_iff s).mp ready l hr
  exact none

end Sys2Proof.Machine
end

section
/-! PROOFS. O19, and the stages of a sample pass. Its readings and ghost corners are read as R17 to R23 give them; ghost analysis and the walk are
followed field by field, each position being visited once, from the state and the configuration it had before the pass. -/

namespace Sys2Proof.Machine

open Sys2Proof.Claims

/-! ### Readings and ghost corners (R17 to R23) -/

theorem inGeometry_iff (cfg : LaneConfig) (p : Nat) : inGeometry cfg p = true ↔ p / 16 < cfg.rows ∧ p % 16 < cfg.cols := by
  simp [inGeometry]

theorem rawClosed_iff (cfg : LaneConfig) (closed : BitVec 128) (p : Nat) :
    rawClosed cfg closed p = true ↔ p / 16 < cfg.rows ∧ p % 16 < cfg.cols ∧ closed.getLsbD p = true := by
  simp [rawClosed, inGeometry, and_assoc]

/-- A crossing of two rows and columns of the geometry reads what its bit of the pass reads. -/
theorem rawClosed_crossing {cfg : LaneConfig} (closed : BitVec 128) {r c : Nat} (hcols : cfg.cols ≤ 16) (hr : r < cfg.rows)
    (hc : c < cfg.cols) : rawClosed cfg closed (crossing r c) = closed.getLsbD (r * 16 + c) := by
  have hdiv : (r * 16 + c) / 16 = r := by omega
  have hmod : (r * 16 + c) % 16 = c := by omega
  simp [rawClosed, inGeometry, crossing, hdiv, hmod, hr, hc]

/-- The corners of ghost rectangles are those of R21. -/
theorem ghostCorner_iff {cfg : LaneConfig} (closed : BitVec 128) (hcols : cfg.cols ≤ 16) (p : Nat) :
    ghostCorner cfg closed p = true ↔ GhostCorner cfg closed p := by
  simp only [ghostCorner, Bool.and_eq_true, inGeometry_iff, List.any_eq_true, List.mem_range, GhostCorner, and_assoc]
  refine and_congr_right fun hrow => and_congr_right fun hcol => ?_
  have rectangle : ∀ r c, r < cfg.rows → c < cfg.cols →
      (ghostRectangle cfg closed (p / 16) r (p % 16) c = true ↔ r ≠ p / 16 ∧ c ≠ p % 16 ∧
        3 ≤ (closed.getLsbD (p / 16 * 16 + p % 16)).toNat + (closed.getLsbD (p / 16 * 16 + c)).toNat +
          (closed.getLsbD (r * 16 + p % 16)).toNat + (closed.getLsbD (r * 16 + c)).toNat) := fun r c hr hc => by
    simp only [ghostRectangle, rawClosed_crossing closed hcols, hrow, hcol, hr, hc, Bool.and_eq_true, decide_eq_true_eq, and_assoc,
      ne_comm]
  constructor
  · rintro ⟨r, hr, c, hc, h⟩
    exact ⟨r, c, hr, hc, (rectangle r c hr hc).mp h⟩
  · rintro ⟨r, c, hr, hc, h⟩
    exact ⟨r, hr, c, hc, (rectangle r c hr hc).mpr h⟩

/-- With no position of the geometry closed there is no ghost rectangle. -/
theorem lowestGhost_of_open {cfg : LaneConfig} {closed : BitVec 128} (h : ∀ p, rawClosed cfg closed p = false) :
    lowestGhost cfg closed = none := by
  simp [lowestGhost, ghostCorner, ghostRectangle, h]

/-- The lowest ghost corner, and none with diodes fitted (R20, R21, R23). -/
theorem lowestGhost_spec {cfg : LaneConfig} (closed : BitVec 128) (hrows : cfg.rows ≤ 8) (hcols : cfg.cols ≤ 16) :
    (cfg.diodes = true → lowestGhost cfg closed = none) ∧
      (cfg.diodes = false → lowestGhost cfg closed = none → ∀ p, ¬GhostCorner cfg closed p) ∧
      (∀ p, lowestGhost cfg closed = some p → GhostCorner cfg closed p ∧ ∀ q, q < p → ¬GhostCorner cfg closed q) := by
  have corner := ghostCorner_iff closed hcols
  refine ⟨fun h => by simp [lowestGhost, h], fun hd h p hp => ?_, fun p h => ?_⟩
  · have hp128 : p < 128 := by
      obtain ⟨hrow, -⟩ := hp
      omega
    simp only [lowestGhost, hd, Bool.false_eq_true, if_false, List.find?_range_eq_none] at h
    simpa [(corner p).mpr hp] using h p hp128
  · unfold lowestGhost at h
    split at h
    · contradiction
    · rw [List.find?_range_eq_some] at h
      obtain ⟨hp, -, lower⟩ := h
      refine ⟨(corner p).mp hp, fun q hq hcorner => ?_⟩
      simpa [(corner q).mpr hcorner] using lower q hq

/-- A maskable state is UP or PRESS_PENDING (Table 2-1). -/
theorem maskable_iff (k : KeyState) : maskable k = true ↔ k = .up ∨ ∃ n waits, k = .pressPending n waits := by
  cases k <;> simp [maskable]

/-- The effective reading: a crossing that reads closed, unless a ghost corner masks it (R20, R22). -/
theorem effectiveClosed_iff {cfg : LaneConfig} (closed : BitVec 128) (hcols : cfg.cols ≤ 16) (p : Nat) (k : KeyState) :
    effectiveClosed cfg closed p k = true ↔
      p / 16 < cfg.rows ∧ p % 16 < cfg.cols ∧ closed.getLsbD p = true ∧
        ¬(cfg.diodes = false ∧ (k = .up ∨ ∃ n waits, k = .pressPending n waits) ∧ GhostCorner cfg closed p) := by
  rw [effectiveClosed, Bool.and_eq_true, rawClosed_iff, ← ghostCorner_iff closed hcols, ← maskable_iff]
  cases cfg.diodes <;> cases maskable k <;> simp [and_assoc]

theorem timerDue_iff (now : Nat) (t : Option Nat) : timerDue now t = true ↔ ∃ due, t = some due ∧ due ≤ now := by
  cases t <;> simp [timerDue]

/-- When a pass is due (R18). -/
theorem passDue_iff (s : State) (l : LaneId) :
    passDue s l = true ↔ (s.lane l).run = .running ∧ 1 ≤ (s.lane l).cfg.rows ∧
      ∃ due, (s.lane l).passTimer = some due ∧ due ≤ s.elapsed := by
  simp [passDue, timerDue_iff, and_assoc]

/-- The key classes are all but LOCK_CONTACT and IGNORE (R39). -/
theorem isKeyClass_iff (cls : KeyClass) : isKeyClass cls = true ↔ cls ≠ .lockContact ∧ cls ≠ .ignore := by
  cases cls <;> simp [isKeyClass]

/-! ### The stages of a pass (R20) -/

/-- The part when ghost analysis has been done, before the walk (R18, R20 step 2). -/
def analysed (l : LaneId) (closed : BitVec 128) (s : State) : State := ghostAnalysis l closed (s.modLane l (nextPass closed))

/-- A due pass is ghost analysis, the walk and the notice. -/
theorem exec_samplePassEnd {l : LaneId} (closed : BitVec 128) {s : State} (h : passDue s l = true) :
    exec (.samplePassEnd l closed) s = .next (settle (notice l (walk l closed (analysed l closed s)))) := by
  show done (samplePass l closed s) = _
  rw [samplePass, if_pos h]
  rfl

/-- Neither the notice nor the outputs' judgement touches the keyboard. -/
theorem keyboard_notice (l : LaneId) (s : State) : keyboard ((settle (notice l s)).lane l) = keyboard (s.lane l) :=
  (congrArg keyboard (lane_settle ..)).trans ((KeyboardKept.refl s).notice l)

/-- All that the transition of a position reads of its lane section. -/
def walkView (L : Lane) : LaneConfig × Vector KeymapEntry 128 × Vector KeyState 128 × List HeldKey :=
  (L.cfg, L.keymap, L.keys, L.held)

theorem walkStep_congr {L L' : Lane} (h : walkView L' = walkView L) (closed : BitVec 128) (p : Nat) :
    walkStep L' closed p = walkStep L closed p ∧ keyAt L' p = keyAt L p := by
  simp only [walkView, Prod.mk.injEq] at h
  obtain ⟨hcfg, hmap, hkeys, hheld⟩ := h
  have hkey : keyAt L' p = keyAt L p := by rw [keyAt, hkeys]; rfl
  have hentry : keymapAt L' p = keymapAt L p := by rw [keymapAt, hmap]; rfl
  have hcount : rolloverCount L' = rolloverCount L := by rw [rolloverCount, hheld]; rfl
  exact ⟨by rw [walkStep, walkStep, hentry, hcount, hkey, hcfg], hkey⟩

theorem walkView_analysed (l : LaneId) (closed : BitVec 128) (s : State) :
    walkView ((analysed l closed s).lane l) = walkView (s.lane l) := by
  unfold analysed ghostAnalysis
  dsimp only
  split
  · simp [walkView, nextPass]
  · split <;> simp [walkView, nextPass, offerFault, count]

/-! ### A visit, and the walk -/

/-- The keyboard of a lane but for its held-key list. -/
def matrix (L : Lane) :
    (LaneState × LaneConfig × Vector KeymapEntry 128 × Vector KeyState 128) × Bool × FaultRecord × BitVec 32 :=
  ((L.run, L.cfg, L.keymap, L.keys), L.ghost, L.fault, L.counters[3])

theorem matrix_of_keyboard {L L' : Lane} (h : keyboard L' = keyboard L) : matrix L' = matrix L := by
  simp only [keyboard, Prod.mk.injEq] at h
  simp [matrix, h]

/-- A hand-over touches no debounce state, and nothing of ghost analysis. -/
theorem matrix_handOver (l : LaneId) (p : Nat) (e : KeyEvent) (s : State) :
    matrix ((handOver l p e s).lane l) = matrix (s.lane l) := by
  cases e with
  | quiet => rfl
  | press =>
    refine (matrix_of_keyboard (KeyboardKept.press l p s l)).trans ?_
    rw [State.lane_modLane_same]; rfl
  | release =>
    refine (matrix_of_keyboard (KeyboardKept.release l p s l)).trans ?_
    rw [State.lane_modLane_same]; rfl
  | blocked => exact matrix_of_keyboard ((KeyboardKept.refl s).count (c := .rolloverBlocked) (by decide) l)

theorem matrix_visit (l : LaneId) (closed : BitVec 128) (s : State) (p : Nat) :
    matrix ((visit l closed s p).lane l) = matrix (setKey p (walkStep (s.lane l) closed p).1 (s.lane l)) := by
  rw [visit_eq, matrix_handOver, State.lane_modLane_same]

/-- What no visit of the walk touches: the settings that the transitions read, and what ghost analysis has left. -/
def settings (L : Lane) : (LaneConfig × Vector KeymapEntry 128) × Bool × FaultRecord × BitVec 32 :=
  ((L.cfg, L.keymap), L.ghost, L.fault, L.counters[3])

theorem keyAt_visit (l : LaneId) (closed : BitVec 128) (s : State) (p q : Nat) :
    keyAt ((visit l closed s p).lane l) q =
      if q = p ∧ p < 128 then (walkStep (s.lane l) closed p).1 else keyAt (s.lane l) q := by
  have h := matrix_visit l closed s p
  simp only [matrix, Prod.mk.injEq] at h
  rw [← keyAt_setKey]
  simp [keyAt, h]

theorem settings_visit (l : LaneId) (closed : BitVec 128) (s : State) (p : Nat) :
    settings ((visit l closed s p).lane l) = settings (s.lane l) := by
  have h := matrix_visit l closed s p
  simp only [matrix, setKey, Prod.mk.injEq] at h
  simp [settings, h]

/-- Visits of other positions leave a position's state, and the settings. -/
theorem foldl_visit_other (l : LaneId) (closed : BitVec 128) {p : Nat} (ps : List Nat) (s : State) (h : ∀ q ∈ ps, p ≠ q) :
    keyAt ((ps.foldl (visit l closed) s).lane l) p = keyAt (s.lane l) p ∧
      settings ((ps.foldl (visit l closed) s).lane l) = settings (s.lane l) := by
  induction ps generalizing s with
  | nil => exact ⟨rfl, rfl⟩
  | cons q ps ih =>
    rw [List.forall_mem_cons] at h
    obtain ⟨hkey, hset⟩ := ih (visit l closed s q) h.2
    refine ⟨hkey.trans ?_, hset.trans (settings_visit ..)⟩
    rw [keyAt_visit, if_neg fun e => h.1 e.1]

/-- The walk up to a position, its visit, and the walk after it. -/
theorem walk_split (l : LaneId) (closed : BitVec 128) (s : State) {p : Nat} (hp : p < 128) :
    walk l closed s = (List.range' (p + 1) (127 - p)).foldl (visit l closed)
      (visit l closed ((List.range p).foldl (visit l closed) s) p) := by
  have split : List.range 128 = List.range p ++ p :: List.range' (p + 1) (127 - p) := by
    have tail : p :: List.range' (p + 1) (127 - p) = List.range' p (128 - p) := by
      rw [show 128 - p = (127 - p) + 1 by omega, List.range'_succ]
    have whole := List.range'_append_1 (s := 0) (m := p) (n := 128 - p)
    rw [Nat.zero_add, show p + (128 - p) = 128 by omega] at whole
    rw [tail, List.range_eq_range', List.range_eq_range', whole]
  rw [walk, split, List.foldl_append, List.foldl_cons]

/-- After the walk a position has the state that its own visit gave it. -/
theorem keyAt_walk (l : LaneId) (closed : BitVec 128) (s : State) {p : Nat} (hp : p < 128) :
    keyAt ((walk l closed s).lane l) p = (walkStep (((List.range p).foldl (visit l closed) s).lane l) closed p).1 := by
  have later : ∀ q ∈ List.range' (p + 1) (127 - p), p ≠ q := fun q hq => by
    rw [List.mem_range'_1] at hq; omega
  rw [walk_split l closed s hp, (foldl_visit_other l closed _ _ later).1, keyAt_visit, if_pos ⟨rfl, hp⟩]

theorem settings_walk (l : LaneId) (closed : BitVec 128) (s : State) :
    settings ((walk l closed s).lane l) = settings (s.lane l) :=
  (foldl_visit_other l closed (p := 128) _ s fun q hq => by rw [List.mem_range] at hq; omega).2

/-- The state that the walk gives a position is the transition of Table 2-2, for some room in the rollover count, from its state and
its reading before the pass. -/
theorem keyAt_walk_transition (l : LaneId) (closed : BitVec 128) (s : State) {p : Nat} (hp : p < 128) :
    ∃ room, keyAt ((walk l closed s).lane l) p =
      (keyTransition (keymapAt (s.lane l) p).cls (s.lane l).cfg.pressCount (s.lane l).cfg.releaseCount room
        (effectiveClosed (s.lane l).cfg closed p (keyAt (s.lane l) p)) (keyAt (s.lane l) p)).1 := by
  obtain ⟨hkey, hset⟩ := foldl_visit_other l closed (p := p) (List.range p) s fun q hq => by rw [List.mem_range] at hq; omega
  simp only [settings, Prod.mk.injEq] at hset
  obtain ⟨⟨hcfg, hmap⟩, -⟩ := hset
  refine ⟨decide (rolloverCount (((List.range p).foldl (visit l closed) s).lane l) < (s.lane l).cfg.rollover), ?_⟩
  rw [keyAt_walk l closed s hp, walkStep, keymapAt, hkey, hcfg, hmap]
  rfl

/-- A position that keeps its state is passed over. -/
theorem visit_of_same {l : LaneId} {closed : BitVec 128} {s : State} {p : Nat}
    (h : (walkStep (s.lane l) closed p).1 = keyAt (s.lane l) p) : visit l closed s p = s := by
  unfold visit
  exact if_pos h

theorem foldl_visit_of_same {l : LaneId} {closed : BitVec 128} {s : State} (ps : List Nat)
    (h : ∀ p ∈ ps, (walkStep (s.lane l) closed p).1 = keyAt (s.lane l) p) : ps.foldl (visit l closed) s = s := by
  induction ps with
  | nil => rfl
  | cons p ps ih =>
    rw [List.forall_mem_cons] at h
    rw [List.foldl_cons, visit_of_same h.1, ih h.2]

/-! ### O19: the quiet pass -/

/-- A position that is UP and reads open stays UP. -/
theorem walkStep_of_up_open {L : Lane} {closed : BitVec 128} {p : Nat} (hup : keyAt L p = .up)
    (hopen : effectiveClosed L.cfg closed p .up = false) : walkStep L closed p = (.up, .quiet) := by
  simp [walkStep, hup, hopen, keyTransition]

/-- A lock position that stays, with nothing newly defined, does nothing at the notice (R52). -/
theorem lockNotice_of_same {l : LaneId} {s : State} (h : (s.lane l).lock = computeLock (s.lane l))
    (hlast : ∀ n, (s.lane l).lock = .index n → (s.lane l).lastLock = some n) : lockNotice l s = s := by
  have same : (s.modLane l fun L => { L with lock := computeLock (s.lane l) }) = s := by
    rw [State.modLane_congr (g := id) (by rw [← h]; rfl), State.modLane_self]
  have defined : defineLock l (computeLock (s.lane l)) s = s := by
    rw [← h]
    unfold defineLock
    split
    · rename_i n e
      exact if_pos (hlast n e)
    · rfl
    · rfl
  unfold lockNotice
  dsimp only
  rw [same, defined, if_pos h.symm]

/-- A notice whose lock position stays, with no repeating key, does nothing. -/
theorem notice_of_quiet {l : LaneId} {s : State} (h : (s.lane l).lock = computeLock (s.lane l))
    (hlast : ∀ n, (s.lane l).lock = .index n → (s.lane l).lastLock = some n) (hrep : (s.lane l).repeating = none) :
    notice l s = s := by
  rw [notice, lockNotice_of_same h hlast, repeatNotice, hrep]

/-- Settles O19. -/
theorem quietPassChangesNothing : Obligations.QuietPassChangesNothing := by
  intro l closed s due hrun hrows htimer hdue hkeys hrep hopen hlock hlast
  have raw : ∀ p, rawClosed (s.lane l).cfg closed p = false := fun p => by
    rw [← Bool.not_eq_true, rawClosed_iff]
    rintro ⟨hrow, hcol, hclosed⟩
    simp [hopen p hrow hcol] at hclosed
  have begun : analysed l closed s = s.modLane l fun L =>
      { L with passTimer := some (due + L.cfg.period), contacts := closed, rowTurn := none, ghost := false } := by
    rw [analysed, ghostAnalysis, State.lane_modLane_same]
    dsimp only [nextPass]
    rw [lowestGhost_of_open raw]
    dsimp only
    rw [State.modLane_modLane]
    refine State.modLane_congr ?_
    simp only [nextPass, htimer, Option.map_some]
  rw [exec_samplePassEnd closed ((passDue_iff s l).mpr ⟨hrun, hrows, due, htimer, hdue⟩), begun]
  refine congrArg (fun t => Host.Outcome.next (settle t)) ?_
  have stays : ∀ f : Lane → Lane, walkView (f (s.lane l)) = walkView (s.lane l) →
      walk l closed (s.modLane l f) = s.modLane l f := fun f hf => by
    refine foldl_visit_of_same _ fun p hp => ?_
    obtain ⟨hstep, hkey⟩ := walkStep_congr hf closed p
    have hup : keyAt (s.lane l) p = .up := by
      rw [keyAt, hkeys]
      simp [List.mem_range.mp hp]
    rw [State.lane_modLane_same, hstep, hkey, hup, walkStep_of_up_open hup (by simp [effectiveClosed, raw])]
  rw [stays _ rfl]
  refine notice_of_quiet ?_ ?_ ?_ <;> rw [State.lane_modLane_same]
  · exact hlock
  · exact hlast
  · exact hrep

end Sys2Proof.Machine
end

section
/-! PROOFS. O20: every position moves at a pass end by Table 2-2, a press completes while the rollover count has room, and ghosts are
reported once. The pass and the walk are those of the part before; here are the rows of the table. -/

namespace Sys2Proof.Machine

open Sys2Proof.Claims

/-! ### The rows of Table 2-2 -/

/-- A press that would complete goes DOWN or is held (R31, R32). -/
theorem pressCompletes_completed (cls : KeyClass) (d : Nat) (room waits : Bool) :
    (pressCompletes cls d room waits).1 = .down ∨ (pressCompletes cls d room waits).1 = .pressPending d true := by
  unfold pressCompletes
  split
  · exact .inl rfl
  · exact .inr rfl

theorem pressCompletes_of_room {cls : KeyClass} {room : Bool} (h : cls = .lockContact ∨ room = true) (d : Nat) (waits : Bool) :
    pressCompletes cls d room waits = (.down, .press) := by
  simp [pressCompletes, h]

theorem pressCompletes_of_full {cls : KeyClass} {room : Bool} (h : ¬(cls = .lockContact ∨ room = true)) (d : Nat) (waits : Bool) :
    pressCompletes cls d room waits = (.pressPending d true, if waits then .quiet else .blocked) := by
  rw [not_or, Bool.not_eq_true] at h
  simp [pressCompletes, h]

/-- A position is passed over by a press where its class is IGNORE or it reads open (Table 2-2). -/
theorem passedOver_iff (cls : KeyClass) (closed : Bool) :
    (decide (cls = .ignore) || !closed) = true ↔ cls = .ignore ∨ ¬closed = true := by
  simp

section
variable {cls : KeyClass} {d u : Nat} {room closed : Bool}

theorem keyTransition_up_open (h : cls = .ignore ∨ ¬closed = true) : keyTransition cls d u room closed .up = (.up, .quiet) := by
  rw [keyTransition, if_pos ((passedOver_iff ..).mpr h)]

theorem keyTransition_up_begins (hcls : ¬cls = .ignore) (h : closed = true) (hd : 1 < d) :
    keyTransition cls d u room closed .up = (.pressPending 1 false, .quiet) := by
  rw [keyTransition, if_neg (by simp [hcls, h]), if_neg (by omega)]

theorem keyTransition_up_completes (hcls : ¬cls = .ignore) (h : closed = true) (hd : d ≤ 1) :
    keyTransition cls d u room closed .up = pressCompletes cls d room false := by
  rw [keyTransition, if_neg (by simp [hcls, h]), if_pos hd]

theorem keyTransition_pressPending_open {k : Nat} {waits : Bool} (h : cls = .ignore ∨ ¬closed = true) :
    keyTransition cls d u room closed (.pressPending k waits) = (.up, .quiet) := by
  rw [keyTransition, if_pos ((passedOver_iff ..).mpr h)]

theorem keyTransition_pressPending_goesOn {k : Nat} (hcls : ¬cls = .ignore) (h : closed = true) (hk : k + 1 < d) :
    keyTransition cls d u room closed (.pressPending k false) = (.pressPending (k + 1) false, .quiet) := by
  rw [keyTransition, if_neg (by simp [hcls, h]), if_neg (by simp; omega)]

theorem keyTransition_pressPending_completes {k : Nat} {waits : Bool} (hcls : ¬cls = .ignore) (h : closed = true)
    (hk : waits = true ∨ d ≤ k + 1) :
    keyTransition cls d u room closed (.pressPending k waits) = pressCompletes cls d room waits := by
  rw [keyTransition, if_neg (by simp [hcls, h]), if_pos (by simpa using hk)]

theorem keyTransition_down_open (h : ¬closed = true) :
    keyTransition cls d u room closed .down = if u ≤ 1 then (.up, .release) else (.releasePending 1, .quiet) := by
  rw [keyTransition, if_neg h]

theorem keyTransition_releasePending_open {k : Nat} (h : ¬closed = true) :
    keyTransition cls d u room closed (.releasePending k) =
      if u ≤ k + 1 then (.up, .release) else (.releasePending (k + 1), .quiet) := by
  rw [keyTransition, if_neg h]

theorem keyTransition_down_closed (h : closed = true) : keyTransition cls d u room closed .down = (.down, .quiet) := by
  rw [keyTransition, if_pos h]

theorem keyTransition_releasePending_closed {k : Nat} (h : closed = true) :
    keyTransition cls d u room closed (.releasePending k) = (.down, .quiet) := by
  rw [keyTransition, if_pos h]

end

/-! ### A press that would complete, in the walk (R31, R32) -/

/-- Whether there is room for the press of a position (R31). -/
abbrev PressRoom (L : Lane) (p : Nat) : Prop := (keymapAt L p).cls = .lockContact ∨ rolloverCount L < L.cfg.rollover

/-- A press that would complete, not held before by rollover. -/
def PressFresh (L : Lane) (p : Nat) : Prop :=
  keyAt L p = .up ∧ L.cfg.pressCount ≤ 1 ∨ ∃ k, keyAt L p = .pressPending k false ∧ L.cfg.pressCount ≤ k + 1

section
variable {L : Lane} {closed : BitVec 128} {p : Nat}

theorem walkStep_fresh (hcls : ¬(keymapAt L p).cls = .ignore) (h : effectiveClosed L.cfg closed p (keyAt L p) = true)
    (fresh : PressFresh L p) :
    walkStep L closed p =
      pressCompletes (keymapAt L p).cls L.cfg.pressCount (decide (rolloverCount L < L.cfg.rollover)) false := by
  rw [walkStep, h]
  obtain ⟨hk, hd⟩ | ⟨k, hk, hd⟩ := fresh <;> rw [hk]
  · exact keyTransition_up_completes hcls rfl hd
  · exact keyTransition_pressPending_completes hcls rfl (.inr hd)

theorem walkStep_waiting {k : Nat} (hcls : ¬(keymapAt L p).cls = .ignore) (h : effectiveClosed L.cfg closed p (keyAt L p) = true)
    (hk : keyAt L p = .pressPending k true) :
    walkStep L closed p =
      pressCompletes (keymapAt L p).cls L.cfg.pressCount (decide (rolloverCount L < L.cfg.rollover)) true := by
  rw [walkStep, h, hk]
  exact keyTransition_pressPending_completes hcls rfl (.inl rfl)

theorem pressRoom_iff :
    ((keymapAt L p).cls = .lockContact ∨ decide (rolloverCount L < L.cfg.rollover) = true) ↔ PressRoom L p := by
  simp [PressRoom]

/-- A press that would complete does so with room, and is held without (R31, R32). -/
theorem walkStep_completes (hcls : ¬(keymapAt L p).cls = .ignore)
    (h : effectiveClosed L.cfg closed p (keyAt L p) = true)
    (ripe : PressFresh L p ∨ ∃ k, keyAt L p = .pressPending k true) :
    (walkStep L closed p).1 = if PressRoom L p then .down else .pressPending L.cfg.pressCount true := by
  obtain ⟨waits, e⟩ : ∃ waits, walkStep L closed p = pressCompletes (keymapAt L p).cls L.cfg.pressCount
      (decide (rolloverCount L < L.cfg.rollover)) waits := by
    obtain fresh | ⟨k, hk⟩ := ripe
    · exact ⟨_, walkStep_fresh hcls h fresh⟩
    · exact ⟨_, walkStep_waiting hcls h hk⟩
  rw [e]
  split
  · rename_i room; rw [pressCompletes_of_room (pressRoom_iff.mpr room)]
  · rename_i full; rw [pressCompletes_of_full fun room => full (pressRoom_iff.mp room)]

end

/-- The visit of a press that would complete: handed over with room, counted or passed over without (R31 to R33). -/
theorem visit_completing (l : LaneId) (closed : BitVec 128) (s : State) (p : Nat)
    (h : effectiveClosed (s.lane l).cfg closed p (keyAt (s.lane l) p) = true) (hcls : ¬(keymapAt (s.lane l) p).cls = .ignore) :
    (PressFresh (s.lane l) p ∨ keyAt (s.lane l) p = .pressPending (s.lane l).cfg.pressCount true → PressRoom (s.lane l) p →
        visit l closed s p = press l p (s.modLane l (setKey p .down))) ∧
      (PressFresh (s.lane l) p → ¬PressRoom (s.lane l) p →
        visit l closed s p =
          count l .rolloverBlocked (s.modLane l (setKey p (.pressPending (s.lane l).cfg.pressCount true)))) ∧
      (keyAt (s.lane l) p = .pressPending (s.lane l).cfg.pressCount true → ¬PressRoom (s.lane l) p → visit l closed s p = s) := by
  refine ⟨fun ripe room => ?_, fun fresh full => ?_, fun waits full => ?_⟩
  · have e : walkStep (s.lane l) closed p = (.down, .press) := by
      obtain fresh | waits := ripe
      · rw [walkStep_fresh hcls h fresh, pressCompletes_of_room (pressRoom_iff.mpr room)]
      · rw [walkStep_waiting hcls h waits, pressCompletes_of_room (pressRoom_iff.mpr room)]
    rw [visit_eq, e]
    rfl
  · rw [visit_eq, walkStep_fresh hcls h fresh, pressCompletes_of_full fun room => full (pressRoom_iff.mp room)]
    rfl
  · refine visit_of_same ?_
    rw [walkStep_waiting hcls h waits, pressCompletes_of_full fun room => full (pressRoom_iff.mp room), waits]

/-! ### The pass end -/

/-- After a due pass each position has the state of Table 2-2, for some room in the rollover count. -/
theorem keyAt_pass (l : LaneId) (closed : BitVec 128) (s : State) {p : Nat} (hp : p < 128) :
    ∃ room, keyAt ((settle (notice l (walk l closed (analysed l closed s)))).lane l) p =
      (keyTransition (keymapAt (s.lane l) p).cls (s.lane l).cfg.pressCount (s.lane l).cfg.releaseCount room
        (effectiveClosed (s.lane l).cfg closed p (keyAt (s.lane l) p)) (keyAt (s.lane l) p)).1 := by
  obtain ⟨room, e⟩ := keyAt_walk_transition l closed (analysed l closed s) hp
  have before := walkView_analysed l closed s
  have after := keyboard_notice l (walk l closed (analysed l closed s))
  simp only [walkView, keyboard, Prod.mk.injEq] at before after
  obtain ⟨hcfg, hmap, hkeys, -⟩ := before
  obtain ⟨⟨-, -, -, hkeys', -⟩, -⟩ := after
  refine ⟨room, ?_⟩
  rw [keyAt, hkeys']
  refine Eq.trans e ?_
  rw [keymapAt, keyAt, hcfg, hmap, hkeys]
  rfl

/-- With no lower-numbered position moving, a position's visit begins from the part as ghost analysis left it. -/
theorem keyAt_pass_of_still {l : LaneId} {closed : BitVec 128} {s : State} {p : Nat} (hp : p < 128)
    (still : ∀ q, q < p → (walkStep (s.lane l) closed q).1 = keyAt (s.lane l) q) :
    keyAt ((settle (notice l (walk l closed (analysed l closed s)))).lane l) p = (walkStep (s.lane l) closed p).1 := by
  have reads := walkStep_congr (walkView_analysed l closed s) closed
  have after := keyboard_notice l (walk l closed (analysed l closed s))
  simp only [keyboard, Prod.mk.injEq] at after
  obtain ⟨⟨-, -, -, hkeys, -⟩, -⟩ := after
  have begins : (List.range p).foldl (visit l closed) (analysed l closed s) = analysed l closed s :=
    foldl_visit_of_same _ fun q hq => by
      rw [(reads q).1, (reads q).2]
      exact still q (List.mem_range.mp hq)
  rw [keyAt, hkeys]
  refine (keyAt_walk l closed _ hp).trans ?_
  rw [begins, (reads p).1]

/-- What ghost analysis has left is so at the end of the pass. -/
theorem marks_pass (l : LaneId) (closed : BitVec 128) (s : State) :
    ((settle (notice l (walk l closed (analysed l closed s)))).lane l).ghost = ((analysed l closed s).lane l).ghost ∧
      ((settle (notice l (walk l closed (analysed l closed s)))).lane l).fault = ((analysed l closed s).lane l).fault ∧
      ((settle (notice l (walk l closed (analysed l closed s)))).lane l).counters[3] =
        ((analysed l closed s).lane l).counters[3] := by
  have walked := settings_walk l closed (analysed l closed s)
  have after := keyboard_notice l (walk l closed (analysed l closed s))
  simp only [settings, keyboard, Prod.mk.injEq] at walked after
  obtain ⟨-, hghost, hfault, hcount⟩ := walked
  obtain ⟨-, hghost', hfault', hcount'⟩ := after
  exact ⟨hghost'.trans hghost, hfault'.trans hfault, hcount'.trans hcount⟩

/-- Ghost analysis: an episode over, going on, or begun with a count and a fault (R23). -/
theorem analysed_marks (l : LaneId) (closed : BitVec 128) (s : State) :
    (lowestGhost (s.lane l).cfg closed = none →
      ((analysed l closed s).lane l).ghost = false ∧ ((analysed l closed s).lane l).fault = (s.lane l).fault ∧
        ((analysed l closed s).lane l).counters[3] = (s.lane l).counters[3]) ∧
    (∀ p, lowestGhost (s.lane l).cfg closed = some p → (s.lane l).ghost = true →
      ((analysed l closed s).lane l).ghost = true ∧ ((analysed l closed s).lane l).fault = (s.lane l).fault ∧
        ((analysed l closed s).lane l).counters[3] = (s.lane l).counters[3]) ∧
    (∀ p, lowestGhost (s.lane l).cfg closed = some p → (s.lane l).ghost = false →
      ((analysed l closed s).lane l).ghost = true ∧
        ((analysed l closed s).lane l).counters[3] = (s.lane l).counters[3] + 1 ∧
        ((analysed l closed s).lane l).fault = (s.lane l).fault.take .ghost .keyboard s.clock p) := by
  have begun : (s.modLane l (nextPass closed)).lane l = nextPass closed (s.lane l) := State.lane_modLane_same ..
  refine ⟨fun none => ?_, fun p some going => ?_, fun p some new => ?_⟩
  · simp [analysed, ghostAnalysis, nextPass, none]
  · simp [analysed, ghostAnalysis, nextPass, some, going]
  · simp [analysed, ghostAnalysis, nextPass, some, new, offerFault, count, countLane, counterIndex]

/-- Settles O20. -/
theorem passFollowsDebounceTable : Obligations.PassFollowsDebounceTable := by
  refine ⟨⟨passDue_iff, fun L => ⟨?_, fun p => ⟨?_, ?_⟩⟩, fun l closed s due => ⟨_, exec_samplePassEnd closed due, fun p hp => ?_⟩⟩,
    fun l closed s p due hp => ?_, fun l closed s p hp => ?_, fun l closed s due => ⟨_, exec_samplePassEnd closed due, ?_⟩,
    fun cfg closed hrows hcols => ?_⟩
  · simp [rolloverCount, List.countP_eq_length_filter, ← isKeyClass_iff]
  · simp [keyAt]
  · simp [keymapAt]
  · obtain ⟨room, e⟩ := keyAt_pass l closed s hp
    dsimp only
    rw [e]
    generalize effectiveClosed (s.lane l).cfg closed p (keyAt (s.lane l) p) = reads
    refine ⟨fun hk h => ?_, fun hk hcls h hd => ?_, fun hk hcls h hd => ?_, fun k waits hk h => ?_, fun k hk hcls h hd => ?_,
      fun k waits hk hcls h hd => ?_, fun hk h => ?_, fun hk h => ?_, fun k hk h => ?_, fun k hk h => ?_⟩ <;> rw [hk]
    · rw [keyTransition_up_open h]
    · rw [keyTransition_up_begins hcls h hd]
    · rw [keyTransition_up_completes hcls h hd]
      exact pressCompletes_completed ..
    · rw [keyTransition_pressPending_open h]
    · rw [keyTransition_pressPending_goesOn hcls h hd]
    · rw [keyTransition_pressPending_completes hcls h hd]
      exact pressCompletes_completed ..
    · rw [keyTransition_down_closed h]
    · rw [keyTransition_down_open h]
      split <;> rfl
    · rw [keyTransition_releasePending_closed h]
    · rw [keyTransition_releasePending_open h]
      split <;> rfl
  · dsimp only
    intro reads hcls ripe still
    refine ⟨_, exec_samplePassEnd closed due, ?_⟩
    rw [keyAt_pass_of_still hp still]
    refine walkStep_completes hcls reads ?_
    obtain ⟨hup, hd⟩ | ⟨k, waits, hk, hd⟩ := ripe
    · exact .inl (.inl ⟨hup, hd⟩)
    · cases waits with
      | true => exact .inr ⟨k, hk⟩
      | false => exact .inl (.inr ⟨k, hk, hd.resolve_left nofun⟩)
  · exact visit_completing l closed s p
  · obtain ⟨hghost, hfault, hcount⟩ := marks_pass l closed s
    rw [hghost, hfault, hcount]
    exact analysed_marks l closed s
  · obtain ⟨hdiodes, hnone, hsome⟩ := lowestGhost_spec closed hrows hcols
    exact ⟨hdiodes, hnone, hsome, effectiveClosed_iff closed hcols⟩

end Sys2Proof.Machine
end

section
/-! PROOFS. O2: the idle step. What is due is a list of commands, each listed on a condition that is its event's own, so that it is
read command by command; the commands of a lane name that lane, so none is listed twice. -/

namespace Sys2Proof.Machine

open Sys2Proof.Claims

/-! ### When each event is due -/

theorem resetDue_iff (s : State) : resetDue s = true ↔ s.resetArmed = true ∧ s.area = [] := by simp [resetDue]

/-- The gap limit runs out after more than 20 ms of silence within a frame (R180). -/
theorem lineGapDue_iff (s : State) :
    lineGapDue s = true ↔ (∃ taken, s.rx = .frame taken) ∧ ∃ since, s.lineGap = some since ∧ since + 20 < s.elapsed := by
  have framed : inFrame s = true ↔ ∃ taken, s.rx = .frame taken := by
    unfold inFrame
    cases s.rx <;> simp
  rw [lineGapDue, Bool.and_eq_true, framed, timerDue_iff]
  refine and_congr_right fun _ => ?_
  cases s.lineGap with
  | none => simp
  | some since => simp [Config.gapLimit]; omega

theorem gapDue_iff (s : State) (l : LaneId) (p : PortId) :
    gapDue s l p = true ↔ (s.lane l).run = .running ∧ (s.port l p).cfg.enabled = true ∧
      ((s.port l p).rx = .assembly ∨ (s.port l p).rx = .skip) ∧ ∃ due, (s.port l p).gap = some due ∧ due ≤ s.elapsed := by
  simp only [gapDue, listening, Bool.and_eq_true, Bool.or_eq_true, decide_eq_true_eq, timerDue_iff, and_assoc]
  rfl

theorem replyDue_iff (s : State) (l : LaneId) (p : PortId) :
    replyDue s l p = true ↔ (s.port l p).expect = .timing ∧ ∃ due, (s.port l p).replyTimer = some due ∧ due ≤ s.elapsed := by
  simp [replyDue, timerDue_iff]

theorem debouncedChangeDue_iff (s : State) (l : LaneId) :
    debouncedChangeDue s l = true ↔ (s.lane l).run = .running ∧
      ∃ since, (s.lane l).drawer.measure = some since ∧ since + (s.lane l).drawer.debounce ≤ s.elapsed := by
  rw [debouncedChangeDue, Bool.and_eq_true, decide_eq_true_eq, debounceDue, timerDue_iff]
  cases (s.lane l).drawer.measure <;> simp

theorem pulseDue_iff (s : State) (l : LaneId) :
    pulseDue s l = true ↔ (s.lane l).drawer.st = .kickPulse ∧ ∃ due, (s.lane l).drawer.pulse = some due ∧ due ≤ s.elapsed := by
  simp [pulseDue, timerDue_iff]

theorem retryDue_iff (s : State) (l : LaneId) :
    retryDue s l = true ↔ (s.lane l).drawer.st = .kickWait ∧ ∃ due, (s.lane l).drawer.retry = some due ∧ due ≤ s.elapsed := by
  simp [retryDue, timerDue_iff]

/-- The open timer is due when it runs and its count has reached an alarm time that is not 0 (R154). -/
theorem openDue_iff (s : State) (l : LaneId) :
    openDue s l = true ↔ (s.lane l).drawer.st = .opened ∧ (s.lane l).drawer.active.alarm ≠ 0 ∧
      ∃ counted since, (s.lane l).drawer.openTimer = .running counted since ∧
        (s.lane l).drawer.active.alarm * 1000 ≤ counted + (s.elapsed - since) := by
  simp only [openDue, Bool.and_eq_true, decide_eq_true_eq, and_assoc]
  refine and_congr_right fun _ => ?_
  cases (s.lane l).drawer.openTimer with
  | stopped => simp [openRuns]
  | running counted since => simp [openRuns, openCount]
  | held counted => simp [openRuns]

/-! ### What is due (log entry 2) -/

theorem mem_onlyIf (c : Bool) (i j : Instr) : j ∈ onlyIf c i ↔ c = true ∧ j = i := by
  cases c <;> simp [onlyIf]

theorem onlyIf_sublist (c : Bool) (i : Instr) : (onlyIf c i).Sublist [i] := by
  cases c <;> simp [onlyIf]

theorem mem_duePort (s : State) (l : LaneId) (p : PortId) (i : Instr) :
    i ∈ duePort s l p ↔ gapDue s l p = true ∧ i = .gapTimerExpiry l p ∨ replyDue s l p = true ∧ i = .replyTimerExpiry l p := by
  simp only [duePort, List.mem_append, mem_onlyIf]

theorem exists_port {P : PortId → Prop} : (∃ p, P p) ↔ P .A ∨ P .B :=
  ⟨fun ⟨p, h⟩ => by
    cases p with
    | A => exact .inl h
    | B => exact .inr h, fun h => h.elim (⟨_, ·⟩) (⟨_, ·⟩)⟩

theorem mem_dueLane (s : State) (l : LaneId) (i : Instr) :
    i ∈ dueLane s l ↔
      (s.lane l).growth = true ∧ i = .growthReport l ∨
      passDue s l = true ∧ i = .samplePassEnd l (s.lane l).contacts ∨
      (∃ p, i ∈ duePort s l p) ∨
      debouncedChangeDue s l = true ∧ i = .debouncedChange l ∨
      pulseDue s l = true ∧ i = .pulseTimerExpiry l ∨
      retryDue s l = true ∧ i = .retryTimerExpiry l ∨
      openDue s l = true ∧ i = .openTimerExpiry l := by
  simp only [dueLane, exists_port, List.mem_append, mem_onlyIf, or_assoc]

/-- What is due: the device's events, then each lane's. -/
theorem dueEvents_eq (s : State) :
    dueEvents s = (onlyIf (resetDue s) (.resetDeviceActs s.straps) ++ onlyIf (lineGapDue s) .gapLimitExpiry) ++
      (List.finRange 4).flatMap (dueLane s) := by
  have lanes : List.finRange 4 = [0, 1, 2, 3] := rfl
  simp [dueEvents, lanes]

theorem mem_dueEvents (s : State) (i : Instr) :
    i ∈ dueEvents s ↔ resetDue s = true ∧ i = .resetDeviceActs s.straps ∨ lineGapDue s = true ∧ i = .gapLimitExpiry ∨
      ∃ l : LaneId, i ∈ dueLane s l := by
  simp only [dueEvents_eq, List.mem_append, mem_onlyIf, List.mem_flatMap, List.mem_finRange, true_and, or_assoc]

/-- The commands that are due are those whose event's time has been reached. -/
theorem mem_dueEvents_iff (s : State) (i : Instr) : i ∈ dueEvents s ↔ DueNow s i := by
  simp only [mem_dueEvents, mem_dueLane, mem_duePort, resetDue_iff, lineGapDue_iff, passDue_iff, gapDue_iff, replyDue_iff,
    debouncedChangeDue_iff, pulseDue_iff, retryDue_iff, openDue_iff]
  cases i
  case resetDeviceActs => simpa [DueNow] using and_comm
  case samplePassEnd => simpa [DueNow] using and_comm
  all_goals simp [DueNow]

/-- A command that is due in a lane names that lane. -/
theorem laneOf_of_mem_dueLane {s : State} {l : LaneId} {i : Instr} (h : i ∈ dueLane s l) : laneOf i = some l := by
  rw [mem_dueLane] at h
  obtain ⟨-, rfl⟩ | ⟨-, rfl⟩ | ⟨p, h⟩ | ⟨-, rfl⟩ | ⟨-, rfl⟩ | ⟨-, rfl⟩ | ⟨-, rfl⟩ := h
  case inr.inr.inl =>
    rw [mem_duePort] at h
    obtain ⟨-, rfl⟩ | ⟨-, rfl⟩ := h <;> rfl
  all_goals rfl

theorem nodup_dueLane (s : State) (l : LaneId) : (dueLane s l).Nodup := by
  have sub : (dueLane s l).Sublist
      [.growthReport l, .samplePassEnd l (s.lane l).contacts, .gapTimerExpiry l .A, .replyTimerExpiry l .A, .gapTimerExpiry l .B,
        .replyTimerExpiry l .B, .debouncedChange l, .pulseTimerExpiry l, .retryTimerExpiry l, .openTimerExpiry l] := by
    unfold dueLane duePort
    exact ((((((onlyIf_sublist ..).append (onlyIf_sublist ..)).append ((onlyIf_sublist ..).append (onlyIf_sublist ..))).append
      ((onlyIf_sublist ..).append (onlyIf_sublist ..))).append (onlyIf_sublist ..)).append (onlyIf_sublist ..)).append
      (onlyIf_sublist ..) |>.append (onlyIf_sublist ..)
  exact sub.nodup (by simp)

/-- No command is queued twice. -/
theorem nodup_dueEvents (s : State) : (dueEvents s).Nodup := by
  have device : (onlyIf (resetDue s) (.resetDeviceActs s.straps) ++ onlyIf (lineGapDue s) .gapLimitExpiry).Nodup :=
    ((onlyIf_sublist ..).append (onlyIf_sublist ..)).nodup (by simp)
  have lanes : ((List.finRange 4).flatMap (dueLane s)).Nodup := by
    refine List.nodup_flatMap.mpr ⟨fun l _ => nodup_dueLane s l, ?_⟩
    refine (List.nodup_finRange 4).imp fun hne i hi hj => hne ?_
    exact Option.some.inj ((laneOf_of_mem_dueLane hi).symm.trans (laneOf_of_mem_dueLane hj))
  rw [dueEvents_eq]
  refine device.append lanes fun i hi hj => ?_
  obtain ⟨l, -, hj⟩ := List.mem_flatMap.mp hj
  have named := laneOf_of_mem_dueLane hj
  simp only [List.mem_append, mem_onlyIf] at hi
  obtain ⟨-, rfl⟩ | ⟨-, rfl⟩ := hi <;> cases named

/-- A lane's next row, row 0 first (R19). -/
theorem nextRow_eq (L : Lane) : nextRow L = { L with rowTurn := some (L.rowTurn.elim 0 (· + 1)) } := by
  rw [← nextRow_rowTurn]
  rfl

/-- Settles O2. -/
theorem idleStepTicksOrQueuesDue : Obligations.IdleStepTicksOrQueuesDue := by
  refine ⟨fun s => ⟨mem_dueEvents_iff s, nodup_dueEvents s⟩, fun s hpending => ?_⟩
  have idles : step s = .next (idle s) := by rw [step, hpending]
  rw [idles]
  refine ⟨rowLeft_iff s, fun left => ?_, fun none => ⟨fun nothing => ?_, fun due => ?_⟩⟩
  · rw [idle, if_pos ((rowsLeft_iff s).mpr left), driveRows]
    simp only [nextRow_eq]
  all_goals
    have driven : ¬rowsLeft s = true := fun h => by
      obtain ⟨l, hl⟩ := (rowsLeft_iff s).mp h
      simp [none l] at hl
    rw [idle, if_neg driven]
  · rw [nothing]
    rfl
  · rw [if_neg (by simpa using due)]

end Sys2Proof.Machine
end

section
/-! PROOFS. O21: presses and releases handed over. A press of a key class is one change of its lane, the same for every class, and then
the action of its class; a release takes its position out of the held-key list. -/

namespace Sys2Proof.Machine

open Sys2Proof.Claims

/-! ### Presses (R39, R43 to R48) -/

/-- The part after a key-class press, before the action of its class (R44, steps 1 to 5). -/
def keyPressed (l : LaneId) (p : Nat) (s : State) : State :=
  let h := keyEntry s.elapsed (s.lane l) p
  (count l .keysAccepted
    (offer l (.keyDown p h.code h.cls) { layer := h.layer } (s.modLane l fun L => { L with held := L.held ++ [h] }))).modLane l
    fun L => { L with repeating := repeatAtPress L h }

theorem press_of_keyClass {l : LaneId} {p : Nat} {s : State} (h : isKeyClass (keymapAt (s.lane l) p).cls = true) :
    press l p s = classAction l (keymapAt (s.lane l) p).cls (keyPressed l p s) := by
  rw [press, if_pos h]
  rfl

theorem repeatAtPress_of_not_normal {L : Lane} {h : HeldKey} (hcls : h.cls ≠ .normal) : repeatAtPress L h = none :=
  if_neg fun e => hcls e.1

/-- A key-class press leaves its lane as a kick and an attempt read it. -/
theorem keyPressed_lane (l : LaneId) (p : Nat) (s : State) :
    ((keyPressed l p s).lane l).run = (s.lane l).run ∧ ((keyPressed l p s).lane l).cfg = (s.lane l).cfg ∧
      ((keyPressed l p s).lane l).lock = (s.lane l).lock ∧ ((keyPressed l p s).lane l).drawer = (s.lane l).drawer ∧
      ((keyPressed l p s).lane l).portA = (s.lane l).portA ∧ ((keyPressed l p s).lane l).portB = (s.lane l).portB := by
  simp [keyPressed, count]

theorem keyPressed_device (l : LaneId) (p : Nat) (s : State) :
    (keyPressed l p s).inhibit = s.inhibit ∧ (keyPressed l p s).elapsed = s.elapsed := by
  simp [keyPressed, count]

/-! #### A local kick (R147, R148, Table 8-2) -/

/-- When a kick begins (Table 8-2). -/
theorem kickRefusal_eq_none_iff (s : State) (l : LaneId) :
    kickRefusal s l = none ↔
      (s.lane l).run = .running ∧ s.inhibit = false ∧ kickAllowed (s.lane l) = true ∧ (s.lane l).drawer.st = .shut := by
  unfold kickRefusal
  dsimp only
  split_ifs with hrun hinhibit hlock
  · simp [hrun]
  · simp [hinhibit]
  · simp_all
  · cases hst : (s.lane l).drawer.st <;> simp_all

theorem kickAllowed_congr {L L' : Lane} (hlock : L'.lock = L.lock) (hcfg : L'.cfg = L.cfg) : kickAllowed L' = kickAllowed L := by
  simp [kickAllowed, hlock, hcfg]

/-- A key press does not change what a kick request is judged by. -/
theorem kickRefusal_keyPressed (l : LaneId) (p : Nat) (s : State) :
    kickRefusal (keyPressed l p s) l = none ↔
      (s.lane l).run = .running ∧ s.inhibit = false ∧ kickAllowed (s.lane l) = true ∧ (s.lane l).drawer.st = .shut := by
  obtain ⟨hrun, hcfg, hlock, hdrawer, -⟩ := keyPressed_lane l p s
  rw [kickRefusal_eq_none_iff, hrun, (keyPressed_device l p s).1, kickAllowed_congr hlock hcfg, hdrawer]

theorem localKick_of_none {l : LaneId} {s : State} (h : kickRefusal s l = none) : localKick l s = beginKick l s := by
  rw [localKick, h]

theorem localKick_of_refused {l : LaneId} {s : State} (h : kickRefusal s l ≠ none) : localKick l s = s := by
  unfold localKick
  split
  · rfl
  · contradiction

/-- A press of a DRAWER position kicks with local kick on, where a kick would be accepted (R45, R148). -/
theorem press_drawer {l : LaneId} {p : Nat} {s : State} (hcls : (keymapAt (s.lane l) p).cls = .drawer) :
    (((s.lane l).drawer.localKick = true ∧ (s.lane l).run = .running ∧ s.inhibit = false ∧ kickAllowed (s.lane l) = true ∧
        (s.lane l).drawer.st = .shut) →
      press l p s = (keyPressed l p s).modLane l fun L =>
        { L with drawer := { (s.lane l).drawer with
            st := .kickPulse, tries := 1, kick := true, pulse := some (s.elapsed + (s.lane l).drawer.active.width)
            retry := some (s.elapsed + (s.lane l).drawer.active.retryPeriod) } }) ∧
    (¬((s.lane l).drawer.localKick = true ∧ (s.lane l).run = .running ∧ s.inhibit = false ∧ kickAllowed (s.lane l) = true ∧
        (s.lane l).drawer.st = .shut) →
      press l p s = keyPressed l p s) := by
  obtain ⟨-, -, -, hdrawer, -⟩ := keyPressed_lane l p s
  have acted : press l p s = if (s.lane l).drawer.localKick then localKick l (keyPressed l p s) else keyPressed l p s := by
    rw [press_of_keyClass (by rw [hcls]; rfl), hcls, ← hdrawer]
    rfl
  rw [acted]
  refine ⟨fun ⟨hlocal, accepted⟩ => ?_, fun refused => ?_⟩
  · rw [if_pos hlocal, localKick_of_none ((kickRefusal_keyPressed l p s).mpr accepted)]
    unfold beginKick State.modDrawer
    refine State.modLane_congr ?_
    rw [hdrawer, (keyPressed_device l p s).2]
    rfl
  · split
    · rename_i hlocal
      exact localKick_of_refused fun e => refused ⟨hlocal, (kickRefusal_keyPressed l p s).mp e⟩
    · rfl

/-! #### CLEAR_RECENT (R46) -/

/-- With both slots empty there is no head, and no attempt (R95, R96). -/
theorem attemptChain_of_empty {l : LaneId} {s : State} (hA : (s.lane l).portA.slot = none) (hB : (s.lane l).portB.slot = none)
    (delayed : Bool) : attemptChain l delayed s = s := by
  have head : headOf (s.lane l) = none := by simp [headOf, headPort, hA, hB]
  have nothing : attempt l delayed s = (s, false) := by
    unfold attempt
    rw [head]
    exact ite_self _
  rw [attemptChain, nothing]
  rfl

/-! ### Releases (R47) -/

/-- The release of a held key: KEY_UP for a key class, and its position leaves the held-key list. -/
theorem release_of_held {l : LaneId} {h : HeldKey} {s : State} (found : heldFind (s.lane l) h.pos = some h) :
    release l h.pos s =
      (if h.cls ≠ .lockContact ∧ h.cls ≠ .ignore then
          offer l (.keyUp h.pos h.code (min (s.elapsed - h.mark) 65535)) { layer := h.layer } s
        else s).modLane l (dropHeld h.pos) := by
  rw [release, found]
  simp only [isKeyClass_iff]
  rfl

/-! ### The pass end (R18, R20, R34) -/

/-- A release completes after U open readings (Table 2-2). -/
theorem walkStep_of_released {L : Lane} {closed : BitVec 128} {p : Nat} (h : effectiveClosed L.cfg closed p (keyAt L p) = false)
    (ripe : keyAt L p = .down ∧ L.cfg.releaseCount ≤ 1 ∨ ∃ k, keyAt L p = .releasePending k ∧ L.cfg.releaseCount ≤ k + 1) :
    walkStep L closed p = (.up, .release) := by
  rw [walkStep, h]
  obtain ⟨hk, hu⟩ | ⟨k, hk, hu⟩ := ripe <;> rw [hk]
  · rw [keyTransition_down_open Bool.false_ne_true, if_pos hu]
  · rw [keyTransition_releasePending_open Bool.false_ne_true, if_pos hu]

/-- Only a release that completes is handed over as one. -/
theorem released_of_walkStep {L : Lane} {closed : BitVec 128} {p : Nat} (h : (walkStep L closed p).2 = .release) :
    effectiveClosed L.cfg closed p (keyAt L p) = false ∧
      (keyAt L p = .down ∧ L.cfg.releaseCount ≤ 1 ∨ ∃ k, keyAt L p = .releasePending k ∧ L.cfg.releaseCount ≤ k + 1) := by
  have held : heldState (keyAt L p) = true := by
    obtain ⟨e, -⟩ | ⟨-, held⟩ | ⟨k', -, e | ⟨e, -⟩⟩ := walkStep_cases L closed p
    · rw [e] at h; cases h
    · exact held
    · rw [e] at h; cases h
    · rw [e] at h; cases h
  rw [walkStep] at h
  cases hc : effectiveClosed L.cfg closed p (keyAt L p) with
  | true =>
    rw [hc] at h
    cases hk : keyAt L p with
    | up | pressPending _ _ => simp [hk, heldState] at held
    | down => rw [hk, keyTransition_down_closed rfl] at h; cases h
    | releasePending k => rw [hk, keyTransition_releasePending_closed rfl] at h; cases h
  | false =>
    rw [hc] at h
    refine ⟨rfl, ?_⟩
    cases hk : keyAt L p with
    | up | pressPending _ _ => simp [hk, heldState] at held
    | down =>
      rw [hk, keyTransition_down_open Bool.false_ne_true] at h
      split at h
      · exact .inl ⟨rfl, ‹_›⟩
      · cases h
    | releasePending k =>
      rw [hk, keyTransition_releasePending_open Bool.false_ne_true] at h
      split at h
      · exact .inr ⟨k, rfl, ‹_›⟩
      · cases h

/-- Ghost analysis, case by case (R20 step 2, R23). -/
theorem analysed_eq (l : LaneId) (closed : BitVec 128) (s : State) :
    analysed l closed s =
      match lowestGhost (s.lane l).cfg closed with
      | none => (s.modLane l (nextPass closed)).modLane l fun L => { L with ghost := false }
      | some p =>
        if (s.lane l).ghost = true then s.modLane l (nextPass closed)
        else offerFault l .ghost .keyboard p
          (count l .ghostEpisodes ((s.modLane l (nextPass closed)).modLane l fun L => { L with ghost := true })) := by
  rw [analysed, ghostAnalysis, State.lane_modLane_same]
  rfl

/-- A pass that is not due does nothing (log entry 3). -/
theorem exec_samplePassEnd_of_not_due {l : LaneId} (closed : BitVec 128) {s : State} (h : passDue s l = false) :
    exec (.samplePassEnd l closed) s = .next (settle s) := by
  show done (samplePass l closed s) = _
  rw [samplePass, if_neg (by simp [h])]
  rfl

/-- Settles O21. -/
theorem pressAndReleaseHandedOver : Obligations.PressAndReleaseHandedOver := by
  refine ⟨fun l p s hcls => ?_, fun l p s => ?_, fun l h s found => release_of_held found, fun l closed s => ?_,
    fun l closed s p hp => ?_⟩
  · refine (press_of_keyClass (by rw [hcls]; rfl)).trans ?_
    rw [hcls]
    simp only [classAction, keyPressed, keyEntry, layerOf, repeatAtPress, hcls, true_and]
    rfl
  · intro e D layer code keyed
    have same : e.cls ≠ .normal → keyPressed l p s = keyed := fun hcls => by
      have ends : ∀ L, repeatAtPress L (keyEntry s.elapsed (s.lane l) p) = none := fun L => repeatAtPress_of_not_normal hcls
      simp only [keyPressed, ends]
      rfl
    refine ⟨fun hcls => ?_, fun hcls => ?_, fun hcls => ?_, fun hcls => ?_⟩
    · rw [← same (by rw [hcls]; decide), press_of_keyClass (by rw [hcls]; rfl), hcls]
      rfl
    · rw [← same (by rw [hcls]; decide)]
      exact press_drawer hcls
    · rw [← same (by rw [hcls]; decide)]
      have pressed : press l p s = attemptChain l true ((keyPressed l p s).modLane l fun L => { L with recent := [] }) := by
        rw [press_of_keyClass (by rw [hcls]; rfl), hcls]
        rfl
      refine ⟨pressed, fun hA hB => pressed.trans (attemptChain_of_empty ?_ ?_ true)⟩ <;> rw [State.lane_modLane_same]
      · obtain ⟨-, -, -, -, hA', -⟩ := keyPressed_lane l p s
        exact (congrArg Port.slot hA').trans hA
      · obtain ⟨-, -, -, -, -, hB'⟩ := keyPressed_lane l p s
        exact (congrArg Port.slot hB').trans hB
    · rw [press, if_neg (by rw [hcls]; decide), pressLock, hcls]
  · refine ⟨fun due => ?_, exec_samplePassEnd_of_not_due closed⟩
    rw [exec_samplePassEnd closed due, analysed_eq]
    rfl
  · refine ⟨fun hopen ripe => ?_, fun quiet => ?_, released_of_walkStep⟩
    · rw [visit_eq, walkStep_of_released hopen ripe]
      rfl
    · rw [visit_eq, quiet]
      rfl

end Sys2Proof.Machine
end

section
/-! PROOFS. O40: KICK. Each refusal of Table 8-2 is read off the lane's state, its lock position and its drawer, in that order. -/

namespace Sys2Proof.Machine

open Sys2Proof.Claims

/-- What KICK of a lane is answered, and does (R147). -/
theorem exec_kick {l : LaneId} {s : State} (hs : Serves s) :
    exec (.kick [laneByte l]) s =
      match kickRefusal s l with
      | some r => .next (replied 0x41 [laneByte l] [resultByte r] (received s))
      | none => .next (replied 0x41 [laneByte l] [0x00] (beginKick l (received s))) := by
  refine (frameCompletes_lane hs _ (kind := 0x41) (by decide) (body := [laneByte l]) rfl rfl).trans ?_
  rw [show kickRefusal (received s) l = kickRefusal s l from rfl]
  cases kickRefusal s l <;> rfl

theorem kick_refusedAs {l : LaneId} {s : State} (hs : Serves s) {r : Result} (h : kickRefusal s l = some r) :
    RefusedAs (.kick [laneByte l]) (resultByte r) s :=
  ⟨0x41, [laneByte l], rfl, by rw [exec_kick hs, h]⟩

/-- Settles O40. -/
theorem kickJudgedByTable : Obligations.KickJudgedByTable := by
  refine ⟨fun L => ⟨fun h => by rw [kickAllowed, h], fun h => by rw [kickAllowed, h], fun i h => ?_⟩, fun l s hs => ?_⟩
  · rw [kickAllowed, h]
    rfl
  · refine ⟨fun hrun => kick_refusedAs hs (r := .state) ?_, fun hrun hinhibit => kick_refusedAs hs (r := .inhibited) ?_,
      fun hrun hinhibit hlock => kick_refusedAs hs (r := .locked) ?_, fun hrun hinhibit hlock => ?_⟩
    · simp [kickRefusal, hrun]
    · simp [kickRefusal, hrun, hinhibit]
    · simp [kickRefusal, hrun, hinhibit, hlock]
    · refine ⟨fun hst => kick_refusedAs hs (r := .busy) ?_, fun hst => kick_refusedAs hs (r := .alreadyOpen) ?_, fun hst => ?_⟩
      · obtain hst | hst | hst := hst <;> simp [kickRefusal, hrun, hinhibit, hlock, hst]
      · obtain hst | hst := hst <;> simp [kickRefusal, hrun, hinhibit, hlock, hst]
      · rw [exec_kick hs, (kickRefusal_eq_none_iff s l).mpr ⟨hrun, hinhibit, hlock, hst⟩]
        rfl

end Sys2Proof.Machine
end

section
/-! PROOFS. O22 and O23: the end-of-pass notice. The attempts and offers of a notice touch neither the repeating key nor the last
defined lock position, so that the repeat is the one the pass left, and a defined index is the last defined one. -/

namespace Sys2Proof.Machine

open Sys2Proof.Claims

/-! ### What the work of a notice keeps -/

/-- The marks of a lane section that the notice moves itself: the repeating key, and the last defined lock position (R48, R52). -/
def noticeMarks (L : Lane) : Option Repeating × Option Nat := (L.repeating, L.lastLock)

theorem noticeMarks_admit (l k : LaneId) (r : Rec) (s : State) :
    noticeMarks ((admitRecord l r s).lane k) = noticeMarks (s.lane k) := by
  rw [lane_admit]
  split <;> simp [noticeMarks]

theorem noticeMarks_modLane {l : LaneId} {f : Lane → Lane} {s : State} (h : noticeMarks (f (s.lane l)) = noticeMarks (s.lane l)) :
    noticeMarks ((s.modLane l f).lane l) = noticeMarks (s.lane l) := by
  rw [State.lane_modLane_same, h]

theorem noticeMarks_suppressLane (p : PortId) (r : SlotRecord) (cross : Bool) (L : Lane) :
    noticeMarks (suppressLane p r cross L) = noticeMarks L := by
  cases p <;> rfl

theorem noticeMarks_acceptLane (p : PortId) (r : SlotRecord) (L : Lane) : noticeMarks (acceptLane p r L) = noticeMarks L := by
  cases p <;> rfl

theorem noticeMarks_rejectLane (p : PortId) (L : Lane) : noticeMarks (rejectLane p L) = noticeMarks L := by
  cases p <;> rfl

theorem noticeMarks_attemptRecord (l : LaneId) (p : PortId) (r : SlotRecord) (late : Bool) (s : State) :
    noticeMarks ((attemptRecord l p r late s).1.lane l) = noticeMarks (s.lane l) := by
  unfold attemptRecord
  split
  case h_1 cross _ => exact noticeMarks_modLane (noticeMarks_suppressLane ..)
  case h_2 index _ =>
    split
    · exact (noticeMarks_modLane (noticeMarks_acceptLane ..)).trans (noticeMarks_admit ..)
    · rfl
  case h_3 reason index _ =>
    split
    · exact (noticeMarks_modLane (noticeMarks_rejectLane ..)).trans (noticeMarks_admit ..)
    · rfl

theorem noticeMarks_attempt (l : LaneId) (late : Bool) (s : State) :
    noticeMarks ((attempt l late s).1.lane l) = noticeMarks (s.lane l) := by
  unfold attempt
  split
  · rfl
  · split
    · rfl
    · exact noticeMarks_attemptRecord ..

theorem noticeMarks_attemptChain (l : LaneId) (late : Bool) (s : State) :
    noticeMarks ((attemptChain l late s).lane l) = noticeMarks (s.lane l) := by
  unfold attemptChain
  split
  · exact (noticeMarks_attempt ..).trans (noticeMarks_attempt ..)
  · exact noticeMarks_attempt ..

/-- No event of a lane moves the time base. -/
theorem keptByWork_elapsed (l : LaneId) (now : Nat) : KeptByWork l (fun _ => ()) (fun s => s.elapsed = now) where
  change _ _ _ h := h
  admission _ _ h := h

/-! ### The lock position of a notice (R51, R52) -/

/-- The last defined lock position when a lock position has been computed: the index, if it is one (R52). -/
def lastDefined (last : Option Nat) : LockPos → Option Nat
  | .index i => some i
  | .inTransit | .noLock => last

theorem noticeMarks_defineLock (l : LaneId) (new : LockPos) (s : State) :
    noticeMarks ((defineLock l new s).lane l) = ((s.lane l).repeating, lastDefined (s.lane l).lastLock new) := by
  cases new with
  | index i =>
    unfold defineLock
    dsimp only
    split
    · rename_i same; simp [noticeMarks, lastDefined, same]
    · simp [noticeMarks, lastDefined, raise]
  | inTransit | noLock => rfl

theorem noticeMarks_lockNotice (l : LaneId) (s : State) :
    noticeMarks ((lockNotice l s).lane l) =
      ((s.lane l).repeating, lastDefined (s.lane l).lastLock (computeLock (s.lane l))) := by
  have defined := noticeMarks_defineLock l (computeLock (s.lane l)) (s.modLane l fun L => { L with lock := computeLock (s.lane l) })
  rw [State.lane_modLane_same] at defined
  unfold lockNotice
  dsimp only
  split
  · exact defined
  · exact ((noticeMarks_modLane rfl).trans (noticeMarks_attemptChain ..)).trans defined

/-- The work of the lock position leaves what the typematic work of its notice reads, but for the store-high state. -/
theorem lockNotice_typematic (l : LaneId) (s : State) :
    ((lockNotice l s).lane l).repeating = (s.lane l).repeating ∧
      (∀ p, heldFind ((lockNotice l s).lane l) p = heldFind (s.lane l) p) ∧ (lockNotice l s).elapsed = s.elapsed := by
  have marks := noticeMarks_lockNotice l s
  have keys := (KeyboardKept.refl s).lockNotice (l := l) l
  simp only [noticeMarks, keyboard, Prod.mk.injEq] at marks keys
  obtain ⟨hrepeating, -⟩ := marks
  obtain ⟨⟨-, -, -, -, hheld⟩, -⟩ := keys
  exact ⟨hrepeating, fun p => by rw [heldFind, hheld]; rfl, (keptByWork_elapsed l s.elapsed).lockNotice (fun _ _ _ _ _ => rfl) rfl⟩

/-! ### O22: the repeat -/

/-- The notice with a repeating key: after the work of the lock position, its repeat falls when its mark has been reached (R49). -/
theorem notice_of_repeating {l : LaneId} {r : Repeating} {h : HeldKey} {s : State} (hr : (s.lane l).repeating = some r)
    (hh : heldFind (s.lane l) r.pos = some h) :
    notice l s =
      if r.due ≤ s.elapsed then repeatFalls l (s.lane l).storeHigh r h (lockNotice l s) else lockNotice l s := by
  obtain ⟨hrepeating, hheld, helapsed⟩ := lockNotice_typematic l s
  rw [notice, repeatNotice, hrepeating, hr]
  dsimp only
  rw [hheld, hh]
  dsimp only
  rw [helapsed]

/-- Settles O22. -/
theorem repeatAtNotice : Obligations.RepeatAtNotice := by
  refine ⟨fun L p => rfl, fun l s still => ?_, fun l r h s hr hh => ?_⟩
  · rw [notice, repeatNotice, (lockNotice_typematic l s).1, still]
  · rw [notice_of_repeating hr hh]
    refine ⟨fun early => if_neg (Nat.not_le.mpr early), fun due high => ?_, fun due low => ?_⟩
    · rw [if_pos due, high]
      rfl
    · rw [if_pos due, low]
      rfl

/-! ### O23: the lock position -/

theorem hasLockContact_iff (L : Lane) : hasLockContact L = true ↔ ∃ p : Fin 128, L.keymap[p].cls = .lockContact := by
  simp only [hasLockContact, List.any_eq_true, decide_eq_true_eq, Vector.mem_toList_iff, Vector.mem_iff_getElem]
  constructor
  · rintro ⟨_, ⟨i, hi, rfl⟩, h⟩
    exact ⟨⟨i, hi⟩, h⟩
  · rintro ⟨p, h⟩
    exact ⟨_, ⟨p.val, p.isLt, rfl⟩, h⟩

/-- The lock contacts of the held-key list (R43, R51). -/
def heldContacts (L : Lane) : List HeldKey := L.held.filter fun h => decide (h.cls = .lockContact)

/-- The lock position, case by case (R51). -/
theorem computeLock_cases (L : Lane) :
    (hasLockContact L = false → computeLock L = .noLock) ∧
      (hasLockContact L = true → (heldContacts L).length ≠ 1 → computeLock L = .inTransit) ∧
      ∀ h, hasLockContact L = true → heldContacts L = [h] → computeLock L = .index h.code.toNat := by
  refine ⟨fun absent => by simp [computeLock, absent], fun present many => ?_, fun h present one => ?_⟩
  · rw [computeLock, present, ← heldContacts]
    simp only [Bool.not_true, Bool.false_eq_true, if_false]
    split
    · rename_i e; simp [e] at many
    · rfl
  · rw [computeLock, present, ← heldContacts, one]
    rfl

/-- The typematic work of a notice leaves the lock position and the last defined one. -/
theorem repeatNotice_lock (l : LaneId) (high : Bool) (s : State) :
    ((repeatNotice l high s).lane l).lock = (s.lane l).lock ∧ ((repeatNotice l high s).lane l).lastLock = (s.lane l).lastLock := by
  obtain e | ⟨r, h, -, -, -, e⟩ := repeatNotice_cases l high s
  · rw [e]; exact ⟨rfl, rfl⟩
  · rw [e, repeatFalls]
    split <;> simp [count]

/-- After a notice the lock position is the one computed before it, and the last defined one if it is an index (R51, R52). -/
theorem notice_lock (l : LaneId) (s : State) :
    ((notice l s).lane l).lock = computeLock (s.lane l) ∧
      ((notice l s).lane l).lastLock = lastDefined (s.lane l).lastLock (computeLock (s.lane l)) := by
  obtain ⟨hlock, hlast⟩ := repeatNotice_lock l (s.lane l).storeHigh (lockNotice l s)
  have marks := noticeMarks_lockNotice l s
  simp only [noticeMarks, Prod.mk.injEq] at marks
  exact ⟨hlock.trans (lockNotice_fields l s).2.1, hlast.trans marks.2⟩

/-- All that the lock position is computed from (R51). -/
theorem computeLock_congr {L L' : Lane} (hmap : L'.keymap = L.keymap) (hheld : L'.held = L.held) :
    hasLockContact L' = hasLockContact L ∧ computeLock L' = computeLock L := by
  have contact : hasLockContact L' = hasLockContact L := by rw [hasLockContact, hmap]; rfl
  exact ⟨contact, by rw [computeLock, contact, hheld]; rfl⟩

/-- After a due pass end the lock position is the one that the keymap and the contacts held then give, and an index is the last
defined one. -/
theorem lock_pass (l : LaneId) (closed : BitVec 128) (s : State) :
    let t := settle (notice l (walk l closed (analysed l closed s)))
    hasLockContact (t.lane l) = hasLockContact (s.lane l) ∧ (t.lane l).lock = computeLock (t.lane l) ∧
      ∀ i, computeLock (t.lane l) = .index i → (t.lane l).lastLock = some i := by
  have begun := walkView_analysed l closed s
  have walked := settings_walk l closed (analysed l closed s)
  generalize walk l closed (analysed l closed s) = u at *
  intro t
  have noticed := keyboard_notice l u
  obtain ⟨hlock, hlast⟩ := notice_lock l u
  simp only [walkView, settings, keyboard, Prod.mk.injEq] at begun walked noticed
  obtain ⟨⟨-, -, hmap, -, hheld⟩, -⟩ := noticed
  have computed : computeLock (t.lane l) = computeLock (u.lane l) := (computeLock_congr hmap hheld).2
  refine ⟨?_, ?_, fun i hi => ?_⟩
  · simp only [t, hasLockContact, hmap, walked, begun]
  · rw [computed, lane_settle, settleLane_lock, hlock]
  · rw [lane_settle, settleLane_lastLock, hlast, ← computed, hi]
    rfl

/-- The work of the lock position with a defined index that is not the last defined one (R52). -/
theorem defineLock_new {l : LaneId} {i : Nat} {s : State} (h : (s.lane l).lastLock ≠ some i) :
    defineLock l (.index i) s =
      (raise l flagLock (offer l (.lock i (s.lane l).lastLock) {} s)).modLane l fun L => { L with lastLock := some i } :=
  if_neg h

theorem defineLock_same {l : LaneId} {i : Nat} {s : State} (h : (s.lane l).lastLock = some i) : defineLock l (.index i) s = s :=
  if_pos h

/-- Settles O23. -/
theorem lockPositionAtNotice : Obligations.LockPositionAtNotice := by
  refine ⟨fun l closed s due => ⟨_, exec_samplePassEnd closed due, ?_⟩, fun L => ⟨hasLockContact_iff L, computeLock_cases L⟩,
    fun l s => ?_⟩
  · obtain ⟨hcontact, hlock, hlast⟩ := lock_pass l closed s
    obtain ⟨unlocked, transit, index⟩ := computeLock_cases
      ((settle (notice l (walk l closed (analysed l closed s)))).lane l)
    rw [hcontact] at unlocked transit index
    rw [hlock]
    exact ⟨unlocked, transit, fun h present one => ⟨index h present one, hlast _ (index h present one)⟩⟩
  · intro new at_ given reached
    have last : (at_.lane l).lastLock = (s.lane l).lastLock := by simp [at_]
    have noticed : lockNotice l s = reached (defineLock l new at_) := rfl
    refine ⟨fun i hi fresh => ?_, fun i hi same => ?_, fun undefined => ?_, fun hA hB => ⟨?_, fun i => ?_⟩⟩
    · rw [noticed, hi, defineLock_new (by rwa [last]), last]
    · rw [noticed, hi, defineLock_same (by rwa [last])]
    · rw [noticed]
      obtain hnew | hnew := undefined <;> rw [hnew] <;> rfl
    · exact attemptChain_of_empty (by simpa [at_] using hA) (by simpa [at_] using hB) true
    · exact attemptChain_of_empty (by simpa [given, at_, raise] using hA) (by simpa [given, at_, raise] using hB) true

end Sys2Proof.Machine
end

section
/-! PROOFS. O24: KEYMAP_WRITE and KEYMAP_READ. A body is judged entry by entry; the entries are then written one position after the
other, so that each position reads the entry that its place in the body gives. -/

namespace Sys2Proof.Machine

open Sys2Proof.Claims

/-! ### The entries of a KEYMAP_WRITE body (R40, Table 11-7) -/

/-- The classes that a class field names (Table 11-4). -/
theorem classOf_eq_some_iff (n : Nat) (cls : KeyClass) : classOf n = some cls ↔ (n, cls) ∈ classValues := by
  unfold classOf
  split <;> simp_all [classValues, eq_comm]

theorem classOf_eq_none_iff (n : Nat) : classOf n = none ↔ 5 < n := by
  match n with
  | 0 | 1 | 2 | 3 | 4 | 5 => simp [classOf]
  | n + 6 => simp only [classOf, true_iff]; omega

theorem classOf_lockContact_iff (n : Nat) : classOf n = some .lockContact ↔ n = 3 := by
  simp [classOf_eq_some_iff, classValues]

/-- An entry with an undefined value is none (R40). -/
theorem keymapEntryOf_bad {body : List Byte} {j : Nat} (h : KeymapEntryBad body j) : keymapEntryOf body j = none := by
  unfold keymapEntryOf
  dsimp only
  rw [show 3 + 6 * j + 5 = 8 + 6 * j by omega, show 3 + 6 * j + 1 = 4 + 6 * j by omega]
  split
  · rfl
  · rename_i cls hcls
    obtain hclass | hflag | ⟨hlock, hindex⟩ := h
    · rw [(classOf_eq_none_iff _).mpr hclass] at hcls
      cases hcls
    · rw [if_pos hflag]
    · rw [(classOf_lockContact_iff _).mpr hlock] at hcls
      cases hcls
      split_ifs with _ defined
      · rfl
      · rfl
      · exact absurd ⟨rfl, hindex⟩ defined

/-- An entry whose values are defined, field by field (R38, R40, Table 11-7). -/
theorem keymapEntryOf_good {body : List Byte} {j : Nat} (h : ¬KeymapEntryBad body j) :
    ∃ e, keymapEntryOf body j = some e ∧ classOf (u8 body (3 + 6 * j)) = some e.cls ∧
      e.base = BitVec.ofNat 16 (u16 body (3 + 6 * j + 1)) ∧ e.shifted = BitVec.ofNat 16 (u16 body (3 + 6 * j + 3)) ∧
      e.repeats = decide (u8 body (3 + 6 * j + 5) = 1) := by
  simp only [KeymapEntryBad, not_or] at h
  obtain ⟨hclass, hflag, hlock⟩ := h
  obtain ⟨cls, hcls⟩ : ∃ cls, classOf (u8 body (3 + 6 * j)) = some cls :=
    Option.ne_none_iff_exists'.mp fun none => hclass ((classOf_eq_none_iff _).mp none)
  have hindex : ¬(cls = .lockContact ∧ 5 < u16 body (3 + 6 * j + 1)) := by
    rintro ⟨rfl, hindex⟩
    exact hlock ⟨(classOf_lockContact_iff _).mp hcls, by rwa [show 4 + 6 * j = 3 + 6 * j + 1 by omega]⟩
  rw [show 8 + 6 * j = 3 + 6 * j + 5 by omega] at hflag
  refine ⟨{ cls := cls, base := BitVec.ofNat 16 (u16 body (3 + 6 * j + 1)), shifted := BitVec.ofNat 16 (u16 body (3 + 6 * j + 3))
            repeats := decide (u8 body (3 + 6 * j + 5) = 1) }, ?_, hcls, rfl, rfl, rfl⟩
  simp only [keymapEntryOf, hcls, if_neg hflag, if_neg hindex, isOn]

/-! ### Entries gathered in order -/

theorem mapM_eq_none_of_mem {α β : Type} {f : α → Option β} {xs : List α} {x : α} (hx : x ∈ xs) (h : f x = none) :
    xs.mapM f = none := by
  induction xs with
  | nil => cases hx
  | cons y ys ih =>
    rw [List.mapM_cons]
    obtain rfl | hx := List.mem_cons.mp hx
    · rw [h]; rfl
    · rw [ih hx]; cases f y <;> rfl

theorem mapM_eq_some_map {α β : Type} {f : α → Option β} {g : α → β} {xs : List α} (h : ∀ x ∈ xs, f x = some (g x)) :
    xs.mapM f = some (xs.map g) := by
  induction xs with
  | nil => rfl
  | cons y ys ih =>
    rw [List.forall_mem_cons] at h
    rw [List.mapM_cons, h.1, ih h.2]
    rfl

/-- The entry that a good entry j of a body is stored as. -/
def entryGiven (body : List Byte) (j : Nat) : KeymapEntry := (keymapEntryOf body j).getD {}

/-- The entries that a KEYMAP_WRITE body of n good entries gives, in order. -/
def entriesGiven (body : List Byte) (n : Nat) : List KeymapEntry := (List.range n).map (entryGiven body)

theorem keymapEntryOf_given {body : List Byte} {j : Nat} (h : ¬KeymapEntryBad body j) :
    keymapEntryOf body j = some (entryGiven body j) := by
  obtain ⟨e, he, -⟩ := keymapEntryOf_good h
  rw [entryGiven, he]; rfl

theorem entryGiven_fields {body : List Byte} {j : Nat} (h : ¬KeymapEntryBad body j) :
    (u8 body (3 + 6 * j), (entryGiven body j).cls) ∈ classValues ∧
      (entryGiven body j).base = BitVec.ofNat 16 (u16 body (3 + 6 * j + 1)) ∧
      (entryGiven body j).shifted = BitVec.ofNat 16 (u16 body (3 + 6 * j + 3)) ∧
      (entryGiven body j).repeats = decide (u8 body (3 + 6 * j + 5) = 1) := by
  obtain ⟨e, he, hcls, hfields⟩ := keymapEntryOf_good h
  rw [entryGiven, he]
  exact ⟨(classOf_eq_some_iff ..).mp hcls, hfields⟩

theorem mapM_keymapEntryOf {body : List Byte} {n : Nat} (h : ∀ j, j < n → ¬KeymapEntryBad body j) :
    (List.range n).mapM (keymapEntryOf body) = some (entriesGiven body n) :=
  mapM_eq_some_map fun j hj => keymapEntryOf_given (h j (List.mem_range.mp hj))

/-- A write touches a lock contact exactly where an old or a new class is LOCK_CONTACT (R40). -/
theorem touchesLock_iff {body : List Byte} {n : Nat} (h : ∀ j, j < n → ¬KeymapEntryBad body j) (L : Lane) (first : Nat) :
    touchesLock L first (entriesGiven body n) = true ↔
      ∃ j, j < n ∧ (u8 body (3 + 6 * j) = 3 ∨ (keymapAt L (first + j)).cls = .lockContact) := by
  have new : ∀ j, j < n → ((entryGiven body j).cls = .lockContact ↔ u8 body (3 + 6 * j) = 3) := fun j hj => by
    obtain ⟨hcls, -⟩ := entryGiven_fields (h j hj)
    rw [← classOf_lockContact_iff, (classOf_eq_some_iff ..).mpr hcls, Option.some_inj]
  simp only [touchesLock, entriesGiven, Bool.or_eq_true, List.any_eq_true, List.mem_map, List.mem_range, List.length_map,
    List.length_range, decide_eq_true_eq]
  constructor
  · rintro (⟨_, ⟨j, hj, rfl⟩, hcls⟩ | ⟨j, hj, hcls⟩)
    · exact ⟨j, hj, .inl ((new j hj).mp hcls)⟩
    · exact ⟨j, hj, .inr hcls⟩
  · rintro ⟨j, hj, hcls | hcls⟩
    · exact .inl ⟨_, ⟨j, hj, rfl⟩, (new j hj).mpr hcls⟩
    · exact .inr ⟨j, hj, hcls⟩

/-! ### The keymap written (R40) -/

/-- Each position written takes its entry, and every other keeps its own. -/
theorem getElem_writeKeymap (map : Vector KeymapEntry 128) (first : Nat) (entries : List KeymapEntry) (p : Nat) (hp : p < 128) :
    (writeKeymap map first entries)[p] = if first ≤ p then entries[p - first]?.getD map[p] else map[p] := by
  induction entries generalizing map first with
  | nil => simp [writeKeymap]
  | cons e es ih =>
    rw [writeKeymap, ih]
    obtain below | rfl | above := Nat.lt_trichotomy p first
    · rw [if_neg (by omega), if_neg (by omega), Vector.getElem_setIfInBounds_ne _ (by omega)]
    · rw [if_neg (by omega), if_pos (Nat.le_refl _)]
      simp
    · rw [if_pos (by omega), if_pos (by omega), Vector.getElem_setIfInBounds_ne _ (by omega),
        show p - first = p - (first + 1) + 1 by omega, List.getElem?_cons_succ]

/-- The positions that a KEYMAP_WRITE of n entries writes read the entries of its body in order. -/
theorem getElem_written (map : Vector KeymapEntry 128) (body : List Byte) (first n : Nat) (p : Fin 128) :
    (writeKeymap map first (entriesGiven body n))[p] =
      if first ≤ p.val ∧ p.val < first + n then entryGiven body (p.val - first) else map[p] := by
  rw [Fin.getElem_fin, getElem_writeKeymap]
  by_cases above : first ≤ p.val
  · by_cases below : p.val < first + n
    · have inside : p.val - first < n := by omega
      simp [above, below, entriesGiven, inside]
    · have outside : n ≤ p.val - first := by omega
      simp [below, entriesGiven, outside]
  · simp [above]

/-! ### KEYMAP_WRITE, judged -/

/-- A part that serves a KEYMAP_WRITE answers as its block does. -/
theorem exec_keymapWrite {s : State} (hs : Serves s) (body : List Byte) :
    exec (.keymapWrite body) s =
      .next (replied 0x20 body (serveKeymapWrite body (received s)).2 (serveKeymapWrite body (received s)).1) :=
  congrArg Host.Outcome.next (frameCompletes_serves hs serveKeymapWrite (by decide) body)

theorem keymapWrite_refusedAs {s : State} (hs : Serves s) {body : List Byte} {r : Result}
    (h : serveKeymapWrite body (received s) = refuse r (received s)) : RefusedAs (.keymapWrite body) (resultByte r) s :=
  ⟨0x20, body, rfl, by rw [exec_keymapWrite hs, h]; rfl⟩

theorem serveKeymapWrite_badLane {b : Byte} (h : 4 ≤ b.toNat) (rest : List Byte) (s : State) :
    serveKeymapWrite (b :: rest) s = refuse .badLane s := by
  have bad : ¬b.toNat < 4 := Nat.not_lt.mpr h
  by_cases count : u8 (b :: rest) 2 = 0 ∨ 16 < u8 (b :: rest) 2
  · exact (if_pos count).trans (if_neg bad)
  · exact (if_neg count).trans (dif_neg bad)

/-- A count of 0 or above 16, or another length than the count gives, is BAD_LENGTH (R40). -/
theorem serveKeymapWrite_badLength {l : LaneId} {body : List Byte} (hlane : body.head? = some (laneByte l))
    (h : u8 body 2 = 0 ∨ 16 < u8 body 2 ∨ body.length ≠ 3 + 6 * u8 body 2) (s : State) :
    serveKeymapWrite body s = refuse .badLength s := by
  obtain ⟨rest, rfl⟩ := List.head?_eq_some_iff.mp hlane
  have lane : (laneByte l).toNat < 4 := by rw [laneByte, toNat_byteOf_lane]; exact l.isLt
  by_cases count : u8 (laneByte l :: rest) 2 = 0 ∨ 16 < u8 (laneByte l :: rest) 2
  · exact (if_pos count).trans (if_pos lane)
  · exact (if_neg count).trans ((dif_pos lane).trans (if_neg ((or_assoc.mpr h).resolve_left count)))

/-- A body of 1 to 16 entries is judged by its span, then by its values, then by the lock contacts it touches (R40). -/
theorem serveKeymapWrite_counted {l : LaneId} {body : List Byte} (hlane : body.head? = some (laneByte l)) (hn : 1 ≤ u8 body 2)
    (hn' : u8 body 2 ≤ 16) (hlen : body.length = 3 + 6 * u8 body 2) (s : State) :
    serveKeymapWrite body s =
      if 128 < u8 body 1 + u8 body 2 then refuse .badValue s
      else
        match (List.range (u8 body 2)).mapM (keymapEntryOf body) with
        | none => refuse .badValue s
        | some entries =>
          if (s.lane l).run = .running ∧ touchesLock (s.lane l) (u8 body 1) entries = true then refuse .state s
          else
            accept .ok (s.modLane l fun L => { L with keymap := writeKeymap L.keymap (u8 body 1) entries }) := by
  obtain ⟨rest, rfl⟩ := List.head?_eq_some_iff.mp hlane
  exact (if_neg (by omega)).trans (withLane_lane _ l hlen)

theorem serveKeymapWrite_badValue {l : LaneId} {body : List Byte} (hlane : body.head? = some (laneByte l)) (hn : 1 ≤ u8 body 2)
    (hn' : u8 body 2 ≤ 16) (hlen : body.length = 3 + 6 * u8 body 2)
    (h : 128 < u8 body 1 + u8 body 2 ∨ ∃ j, j < u8 body 2 ∧ KeymapEntryBad body j) (s : State) :
    serveKeymapWrite body s = refuse .badValue s := by
  rw [serveKeymapWrite_counted hlane hn hn' hlen]
  obtain span | ⟨j, hj, bad⟩ := h
  · exact if_pos span
  · rw [mapM_eq_none_of_mem (List.mem_range.mpr hj) (keymapEntryOf_bad bad)]
    exact ite_self _

/-- A body of good entries inside the keymap writes them, but in a RUNNING lane where it touches a lock contact (R40). -/
theorem serveKeymapWrite_good {l : LaneId} {body : List Byte} (hlane : body.head? = some (laneByte l)) (hn : 1 ≤ u8 body 2)
    (hn' : u8 body 2 ≤ 16) (hlen : body.length = 3 + 6 * u8 body 2) (hspan : u8 body 1 + u8 body 2 ≤ 128)
    (good : ∀ j, j < u8 body 2 → ¬KeymapEntryBad body j) (s : State) :
    serveKeymapWrite body s =
      if (s.lane l).run = .running ∧ touchesLock (s.lane l) (u8 body 1) (entriesGiven body (u8 body 2)) = true then refuse .state s
      else accept .ok (s.modLane l fun L =>
        { L with keymap := writeKeymap (s.lane l).keymap (u8 body 1) (entriesGiven body (u8 body 2)) }) := by
  have written : (s.modLane l fun L => { L with keymap := writeKeymap L.keymap (u8 body 1) (entriesGiven body (u8 body 2)) }) =
      s.modLane l fun L => { L with keymap := writeKeymap (s.lane l).keymap (u8 body 1) (entriesGiven body (u8 body 2)) } :=
    State.modLane_congr rfl
  rw [serveKeymapWrite_counted hlane hn hn' hlen, if_neg (Nat.not_lt.mpr hspan), mapM_keymapEntryOf good, ← written]

/-! ### KEYMAP_READ (R42) -/

/-- What a KEYMAP_READ of its length is answered; it changes nothing. -/
theorem exec_keymapRead {s : State} (hs : Serves s) (l : LaneId) (first n : Byte) :
    exec (.keymapRead [laneByte l, first, n]) s =
      if n.toNat = 0 ∨ 16 < n.toNat ∨ 128 < first.toNat + n.toNat then
        .next (replied 0x21 [laneByte l, first, n] [0x04] (received s))
      else .next (replied 0x21 [laneByte l, first, n]
        (0x00 :: n :: (List.range n.toNat).flatMap fun j => entryBytes (keymapAt (s.lane l) (first.toNat + j))) (received s)) := by
  have sent : byteOf n.toNat = n := by simp [byteOf]
  have fields : u8 [laneByte l, first, n] 1 = first.toNat ∧ u8 [laneByte l, first, n] 2 = n.toNat := ⟨rfl, rfl⟩
  refine (frameCompletes_lane hs _ (kind := 0x21) (by decide) (body := [laneByte l, first, n]) rfl rfl).trans ?_
  dsimp only
  rw [fields.1, fields.2, sent]
  split <;> rfl

/-- The bytes of an entry are its class, codes and repeat flag, in that order (Table 11-10). -/
theorem entryBytes_eq (e : KeymapEntry) :
    ∃ c : Byte, (c.toNat, e.cls) ∈ classValues ∧
      entryBytes e = c :: le16 e.base.toNat ++ le16 e.shifted.toNat ++ [if e.repeats then 0x01 else 0x00] := by
  refine ⟨byteOf (classNum e.cls), ?_, rfl⟩
  cases e.cls <;> decide

/-- Settles O24. -/
theorem keymapWrittenAndRead : Obligations.KeymapWrittenAndRead := by
  refine ⟨fun l body s hs hlane hn hn' hlen hspan good free => ?_, fun s hs => ⟨fun b rest hb => ?_, ?_, fun l body hlane => ?_⟩,
    entryBytes_eq, fun l first n s hs => ⟨fun hn hn' hspan => ?_, fun bad => ?_⟩⟩
  · have untouched : ¬(((received s).lane l).run = .running ∧
        touchesLock ((received s).lane l) (u8 body 1) (entriesGiven body (u8 body 2)) = true) := by
      rw [touchesLock_iff good]
      rintro ⟨running, j, hj, lock⟩
      obtain ready | free := free
      · cases ready.symm.trans running
      · exact lock.elim (free j hj).2 (free j hj).1
    refine ⟨writeKeymap (s.lane l).keymap (u8 body 1) (entriesGiven body (u8 body 2)), ?_, fun p => ?_⟩
    · rw [exec_keymapWrite hs, serveKeymapWrite_good hlane hn hn' hlen hspan good, if_neg untouched]
      rfl
    · rw [getElem_written]
      split
      · exact entryGiven_fields (good _ (by omega))
      · rfl
  · exact keymapWrite_refusedAs hs (r := .badLane) (serveKeymapWrite_badLane hb rest _)
  · exact keymapWrite_refusedAs hs (r := .badLength) rfl
  · refine ⟨fun h => keymapWrite_refusedAs hs (r := .badLength) (serveKeymapWrite_badLength hlane h _), fun hn hn' hlen =>
      ⟨fun h => keymapWrite_refusedAs hs (r := .badValue) (serveKeymapWrite_badValue hlane hn hn' hlen h _),
        fun hspan good running lock => ?_⟩⟩
    refine keymapWrite_refusedAs hs (r := .state) ?_
    rw [serveKeymapWrite_good hlane hn hn' hlen hspan good]
    exact if_pos ⟨running, (touchesLock_iff good ..).mpr lock⟩
  · rw [exec_keymapRead hs, if_neg (by omega)]
  · exact ⟨0x21, _, rfl, by rw [exec_keymapRead hs, if_pos bad]⟩

end Sys2Proof.Machine
end

section
/-! PROOFS. O32: the screening of a record (Table 6-1), the suppression of duplicates, and how an attempt ends. Each step of the
screening is a lemma of its own: the entry a code matches, what a matched entry judges, and the window of a recent code. -/

namespace Sys2Proof.Machine

open Sys2Proof.Claims

/-! ### The entry a code matches (R92) -/

/-- Whether an entry is present with a code's first byte as its mark (R92). -/
def MarkedBy (table : Vector SymEntry 8) (code : List Byte) (i : Fin 8) : Prop :=
  table[i].present = true ∧ code.head? = some table[i].mark

theorem symbologyIndex_eq (table : Vector SymEntry 8) (code : List Byte) :
    symbologyIndex table code =
      (List.finRange 8).find? fun i => table[i].present && decide (code.head? = some table[i].mark) := rfl

theorem symbologyIndex_eq_none_iff (table : Vector SymEntry 8) (code : List Byte) :
    symbologyIndex table code = none ↔ ∀ i, ¬MarkedBy table code i := by
  simp [symbologyIndex_eq, MarkedBy]

theorem symbologyIndex_eq_some_iff (table : Vector SymEntry 8) (code : List Byte) (i : Fin 8) :
    symbologyIndex table code = some i ↔ MarkedBy table code i ∧ ∀ j, j < i → ¬MarkedBy table code j := by
  rw [symbologyIndex_eq, List.find?_eq_some_iff_getElem]
  simp only [Bool.and_eq_true, decide_eq_true_eq, Bool.not_eq_true', ← Bool.not_eq_true, List.getElem_finRange]
  refine and_congr_right fun _ => ⟨?_, fun lower => ⟨i.val, by simp, by simp, fun j hj => lower ⟨j, _⟩ hj⟩⟩
  rintro ⟨k, hk, rfl, lower⟩ j hj
  exact lower j.val hj

/-! ### What a matched entry judges (R102) -/

theorem all_isDigit_iff (data : List Byte) : data.all isDigit = true ↔ ∀ b ∈ data, 0x30 ≤ b.toNat ∧ b.toNat ≤ 0x39 := by
  simp [isDigit]

/-- The weights of a check rule, odd positions first (R92, R103). -/
def checkWeights : CheckRule → Option (Nat × Nat)
  | .none => none
  | .mod10w31 => some (3, 1)
  | .mod10w13 => some (1, 3)

theorem checkWeights_of_ne_none {rule : CheckRule} (h : rule ≠ .none) : ∃ odd even, checkWeights rule = some (odd, even) := by
  cases rule with
  | none => exact absurd rfl h
  | mod10w31 | mod10w13 => exact ⟨_, _, rfl⟩

theorem judgeMatched_of_outside {e : SymEntry} {code : List Byte}
    (h : (code.drop 1).length < e.minLen ∨ e.maxLen < (code.drop 1).length) : judgeMatched e code = some .length := by
  unfold judgeMatched
  exact if_pos (by simpa using h)

section Inside

variable {e : SymEntry} {code : List Byte} (inside : ¬((code.drop 1).length < e.minLen ∨ e.maxLen < (code.drop 1).length))

include inside

theorem judgeMatched_of_unchecked (h : e.rule = .none) : judgeMatched e code = none := by
  unfold judgeMatched
  dsimp only
  rw [if_neg (by simpa using inside), h]

/-- A code of a good length under a check rule is judged for digits, then for its length, then for its check digit (R102). -/
theorem judgeMatched_of_checked {odd even : Nat} (h : checkWeights e.rule = some (odd, even)) :
    judgeMatched e code =
      if ∀ b ∈ code.drop 1, 0x30 ≤ b.toNat ∧ b.toNat ≤ 0x39 then
        if (code.drop 1).length < 2 then some .length
        else if checkPasses odd even (code.drop 1) = true then none else some .check
      else some .notNumeric := by
  unfold judgeMatched
  dsimp only
  rw [if_neg (by simpa using inside), ← if_congr (all_isDigit_iff (code.drop 1)) rfl rfl]
  cases hrule : e.rule with
  | none => rw [hrule] at h; cases h
  | mod10w31 | mod10w13 =>
    rw [hrule] at h
    cases h
    cases (code.drop 1).all isDigit <;> rfl

theorem judgeMatched_of_digits {odd even : Nat} (h : checkWeights e.rule = some (odd, even))
    (digits : ∀ b ∈ code.drop 1, 0x30 ≤ b.toNat ∧ b.toNat ≤ 0x39) (long : 2 ≤ (code.drop 1).length) :
    judgeMatched e code = if checkPasses odd even (code.drop 1) = true then none else some .check := by
  rw [judgeMatched_of_checked inside h, if_pos digits, if_neg (Nat.not_lt.mpr long)]

end Inside

/-! ### The steps of the screening (R99 to R104) -/

theorem screen_of_locked {L : Lane} (h : scanAllowed L = false) (s : State) (p : PortId) (r : SlotRecord) :
    screen s L p r = .reject .locked 15 := by
  simp [screen, h, noIndex]

section Judged

variable {s : State} {L : Lane} {r : SlotRecord} (allowed : scanAllowed L = true) (sound : r.damaged = false) (p : PortId)

include allowed in
theorem screen_of_damaged (h : r.damaged = true) : screen s L p r = .reject .lineError 15 := by
  simp [screen, allowed, h, noIndex]

include allowed sound

/-- A record that matches no entry is rejected under strict, and judged as a duplicate otherwise (R101). -/
theorem screen_of_unlisted (unlisted : symbologyIndex s.symbology r.code = none) :
    screen s L p r = if s.strict = true then .reject .unlisted 15 else judgeDuplicate s L p r 15 := by
  simp [screen, allowed, sound, unlisted, noIndex]

theorem screen_of_rejected {i : Fin 8} (listed : symbologyIndex s.symbology r.code = some i) {reason : RejectReason}
    (h : judgeMatched s.symbology[i] r.code = some reason) : screen s L p r = .reject reason i.val := by
  simp only [screen, allowed, sound, listed, h]
  rfl

theorem screen_of_passed {i : Fin 8} (listed : symbologyIndex s.symbology r.code = some i)
    (h : judgeMatched s.symbology[i] r.code = none) : screen s L p r = judgeDuplicate s L p r i.val := by
  simp only [screen, allowed, sound, listed, h]
  rfl

end Judged

/-- A record with a recent-code entry is suppressed within the window of its port, and accepted outside it (R104). -/
theorem judgeDuplicate_of_found {s : State} {L : Lane} {r : SlotRecord} {e : RecentEntry} (h : recentFind L.recent r.code = some e)
    (p : PortId) (index : Nat) :
    judgeDuplicate s L p r index =
      if withinWindow e.time r.time (if e.port = p then s.sameWindow else s.crossWindow) = true then
        .suppress (decide (e.port ≠ p))
      else .accept index := by
  unfold judgeDuplicate
  rw [h]
  by_cases same : e.port = p <;> simp [same]

theorem withinWindow_iff (entry now : Clock) (window : Nat) :
    withinWindow entry now window = true ↔ entry.toNat ≤ now.toNat ∧ now.toNat - entry.toNat < window := by
  simp [withinWindow]

/-! ### How an attempt ends (R97, R105 to R107, R113) -/

theorem tonePort_eq (tone : OptByte) (P : Port) : tonePort tone P = toned tone P := by
  have room : (tone.present && decide (P.txq.length < Config.txQueueBytes)) = true ↔ tone.present = true ∧ P.txq.length < 8 := by
    rw [Bool.and_eq_true, decide_eq_true_eq]
    rfl
  exact if_congr room rfl rfl

/-- An accepted record in its lane: counted, its code recent, its good-read tone queued, its slot empty (R105). -/
theorem acceptLane_eq (p : PortId) (r : SlotRecord) (L : Lane) :
    acceptLane p r L =
      ({ L with counters := L.counters.set 4 (L.counters[4] + 1), recent := recentAccept p r L.recent }).modPort p fun P =>
        { toned P.cfg.goodTone P with slot := none } := by
  cases p <;> simp only [acceptLane, tonePort_eq] <;> rfl

/-- A rejected record in its lane: counted, its bad-read tone queued, its slot empty (R106). -/
theorem rejectLane_eq (p : PortId) (L : Lane) :
    rejectLane p L =
      ({ L with counters := L.counters.set 7 (L.counters[7] + 1) }).modPort p fun P =>
        { toned P.cfg.badTone P with slot := none } := by
  cases p <;> simp only [rejectLane, tonePort_eq] <;> rfl

/-- A suppressed record in its lane: counted by its window, its entry brought to the front, its slot empty (R107). -/
theorem suppressLane_eq (p : PortId) (r : SlotRecord) (cross : Bool) (L : Lane) :
    suppressLane p r cross L =
      ({ L with recent := recentSuppress r L.recent
                counters := if cross then L.counters.set 6 (L.counters[6] + 1) else L.counters.set 5 (L.counters[5] + 1) }).modPort
        p fun P => { P with slot := none } := by
  cases cross <;> rfl

/-- A SCAN_REJECT holds one slot (Table 7-1). -/
theorem recordSlots_scanReject (p : PortId) (index : Nat) (reason : RejectReason) (length : Nat) :
    recordSlots (.scanReject p index reason length) = 1 := by
  simp [recordSlots, recordLength, recordBody, slotsFor, Config.slotBytes]

section Attempts

variable {l : LaneId} {p : PortId} {r : SlotRecord} (late : Bool) {s : State}

theorem attemptRecord_of_accept {index : Nat} (h : screen s (s.lane l) p r = .accept index) :
    attemptRecord l p r late s =
      if recordSlots (.scan p index r.code) ≤ headroom s l then
        ((admitRecord l { body := .scan p index r.code, flags := { delayed := late }, stamp := r.time } s).modLane l
          (acceptLane p r), true)
      else (s, false) := by
  simp only [attemptRecord, h, fits_iff]
  rfl

theorem attemptRecord_of_reject {reason : RejectReason} {index : Nat} (h : screen s (s.lane l) p r = .reject reason index) :
    attemptRecord l p r late s =
      if 1 ≤ headroom s l then
        ((admitRecord l { body := .scanReject p index reason r.code.length, flags := { delayed := late, damaged := r.damaged }
                          stamp := r.time } s).modLane l (rejectLane p), true)
      else (s, false) := by
  simp only [attemptRecord, h, fits_iff, recordSlots_scanReject]
  rfl

theorem attemptRecord_of_suppress {cross : Bool} (h : screen s (s.lane l) p r = .suppress cross) :
    attemptRecord l p r late s = (s.modLane l (suppressLane p r cross), true) := by
  simp only [attemptRecord, h]

end Attempts

/-- Settles O32. -/
theorem screeningAndDuplicates : Obligations.ScreeningAndDuplicates := by
  refine ⟨fun s L p r => ⟨fun locked => screen_of_locked locked s p r, fun allowed => screen_of_damaged allowed p,
      fun allowed sound unlisted strict => ?_, fun i allowed sound listed => ?_⟩,
    ⟨fun table code => rfl, fun L => ⟨fun h => by rw [scanAllowed, h], fun h => by rw [scanAllowed, h], fun i h => ?_⟩,
      fun table code => ⟨symbologyIndex_eq_none_iff table code, symbologyIndex_eq_some_iff table code⟩⟩,
    fun s L p r allowed sound => ⟨fun unlisted lax => ?_, fun i listed => ?_, fun index fresh => ?_⟩,
    fun s L p r index e found => ?_,
    fun l p r late s => ⟨fun index h => ?_, fun reason index h => ?_, fun cross h => ?_, fun _ => rfl⟩⟩
  · rw [screen_of_unlisted allowed sound p unlisted, if_pos strict]
  · intro e data outside digits
    have rejects : ∀ {reason}, judgeMatched e r.code = some reason → screen s L p r = .reject reason i.val :=
      screen_of_rejected allowed sound p listed
    refine ⟨fun out => rejects (judgeMatched_of_outside out), fun ins rule text => rejects ?_, fun ins rule num short => rejects ?_,
      fun ins rule num long wrong => rejects ?_, fun ins rule num long wrong => rejects ?_⟩
    · obtain ⟨odd, even, weights⟩ := checkWeights_of_ne_none rule
      rw [judgeMatched_of_checked ins weights, if_neg text]
    · obtain ⟨odd, even, weights⟩ := checkWeights_of_ne_none rule
      rw [judgeMatched_of_checked ins weights, if_pos num, if_pos short]
    · rw [judgeMatched_of_digits ins (congrArg checkWeights rule) num long, wrong]
      rfl
    · rw [judgeMatched_of_digits ins (congrArg checkWeights rule) num long, wrong]
      rfl
  · rw [scanAllowed, h]
    rfl
  · rw [screen_of_unlisted allowed sound p unlisted, lax]
    rfl
  · intro e data digits hmin hmax rule
    have ins : ¬(data.length < e.minLen ∨ e.maxLen < data.length) := by omega
    refine screen_of_passed allowed sound p listed ?_
    obtain unchecked | ⟨num, long, ⟨rule, right⟩ | ⟨rule, right⟩⟩ := rule
    · exact judgeMatched_of_unchecked ins unchecked
    · rw [judgeMatched_of_digits ins (congrArg checkWeights rule) num long, if_pos right]
    · rw [judgeMatched_of_digits ins (congrArg checkWeights rule) num long, if_pos right]
  · rw [judgeDuplicate, fresh]
  · dsimp only
    rw [judgeDuplicate_of_found found]
    refine ⟨fun after near => if_pos ((withinWindow_iff ..).mpr ⟨after, near⟩),
      fun after far => if_neg fun h => ?_, fun before => if_neg fun h => ?_, ?_⟩
    · exact absurd ((withinWindow_iff ..).mp h).2 (Nat.not_lt.mpr far)
    · exact absurd ((withinWindow_iff ..).mp h).1 (Nat.not_le.mpr before)
    · rw [recentSuppress, found]
  · rw [attemptRecord_of_accept late h]
    refine ⟨fun full => if_neg (Nat.not_le.mpr full), fun room => ?_⟩
    rw [if_pos room, funext (acceptLane_eq p r)]
  · rw [attemptRecord_of_reject late h]
    refine ⟨fun full => if_neg (Nat.not_le.mpr full), fun room => ?_⟩
    rw [if_pos room, funext (rejectLane_eq p)]
  · rw [attemptRecord_of_suppress late h, funext (suppressLane_eq p r cross)]

end Sys2Proof.Machine
end

section
/-! PROOFS. What a step can do to the Event Store. The queues, the lane configurations and the store-high states move in five ways,
each but the reset under a recompute; what these five keep, every step keeps (`step_storeMoves`). -/

namespace Sys2Proof.Machine

/-! ### The moves of the Event Store -/

/-- What the admission arithmetic and R129 read and write of a lane section. -/
def storeView (L : Lane) : LaneConfig × List Rec × Bool := (L.cfg, L.queue, L.storeHigh)

@[simp] theorem storeView_modPort (L : Lane) (p : PortId) (f : Port → Port) : storeView (L.modPort p f) = storeView L := by
  simp [storeView]

/-- The parts that the moves of the Event Store make of `s`. -/
inductive StoreMoves (s : State) : State → Prop
  /-- Nothing has moved. -/
  | refl : StoreMoves s s
  /-- Whatever leaves the store's view of every lane section as it is. -/
  | same {t u : State} : StoreMoves s t → (∀ k : LaneId, storeView (u.lane k) = storeView (t.lane k)) → StoreMoves s u
  /-- The admission of a record that fits (R122). -/
  | admission {t : State} (l : LaneId) (r : Rec) :
      StoreMoves s t → recordSlots r.body ≤ headroom t l → StoreMoves s (admitRecord l r t)
  /-- The oldest records fetched or purged (R135, R136). -/
  | removal {t : State} (l : LaneId) (n : Nat) :
      StoreMoves s t → StoreMoves s (recompute t (t.modLane l fun L => { L with queue := L.queue.drop n }))
  /-- A lane configuration within the limits of R9. -/
  | config {t : State} (l : LaneId) (c : LaneConfig) :
      StoreMoves s t → roomFor l (clampLane c) t = true → StoreMoves s (recompute t (withConfig l (clampLane c) t))
  /-- RESET_LANE (R5, R6). -/
  | cleared {t : State} (l : LaneId) : StoreMoves s t → StoreMoves s (recompute t (t.modLane l resetLane))
  /-- The resets of the part (R186, R187). -/
  | reset {t : State} (straps : BitVec 2) : StoreMoves s t → StoreMoves s (resetAll straps t)

namespace StoreMoves

variable {s t u : State}

theorem trans (h : StoreMoves s t) (h' : StoreMoves t u) : StoreMoves s u := by
  induction h' with
  | refl => exact h
  | same _ e ih => exact ih.same e
  | admission l r _ fit ih => exact ih.admission l r fit
  | removal l n _ ih => exact ih.removal l n
  | config l c _ room ih => exact ih.config l c room
  | cleared l _ ih => exact ih.cleared l
  | reset straps _ ih => exact ih.reset straps

theorem lanes (h : StoreMoves s t) (e : u.lanes = t.lanes) : StoreMoves s u :=
  h.same fun k => by rw [State.lane, e]; rfl

theorem modLane (h : StoreMoves s t) {l : LaneId} {f : Lane → Lane} (hf : ∀ L, storeView (f L) = storeView L := by exact fun _ => rfl) :
    StoreMoves s (t.modLane l f) :=
  h.same fun k => by
    by_cases e : k = l
    · subst e; rw [State.lane_modLane_same, hf]
    · rw [State.lane_modLane_other _ _ e]

theorem settle (h : StoreMoves s t) : StoreMoves s (settle t) := h.same fun k => by rw [lane_settle]; rfl

/-! #### Offers, flags, counts and faults -/

theorem modPort (h : StoreMoves s t) {l : LaneId} {p : PortId} {f : Port → Port} : StoreMoves s (t.modPort l p f) :=
  h.modLane fun _ => storeView_modPort ..

theorem modDrawer (h : StoreMoves s t) {l : LaneId} {f : Drawer → Drawer} : StoreMoves s (t.modDrawer l f) :=
  h.modLane

theorem raise (h : StoreMoves s t) {l : LaneId} {f : Byte} : StoreMoves s (raise l f t) := h.modLane

theorem count (h : StoreMoves s t) {l : LaneId} {c : Counter} : StoreMoves s (count l c t) := h.modLane

theorem offerFault (h : StoreMoves s t) {l : LaneId} {kind : FaultKind} {src : FaultSource} {n : Nat} :
    StoreMoves s (offerFault l kind src n t) := h.modLane

theorem lose (h : StoreMoves s t) {l : LaneId} : StoreMoves s (lose l t) := h.modLane

theorem offer (h : StoreMoves s t) {l : LaneId} {b : RecBody} {f : RecFlags} : StoreMoves s (offer l b f t) := by
  obtain ⟨fit, e⟩ | ⟨_, e⟩ := offer_cases l b f t
  · exact e ▸ h.admission l _ fit
  · exact e ▸ h.lose

/-! #### Screening attempts (R97) -/

theorem attemptRecord (h : StoreMoves s t) {l : LaneId} {p : PortId} {r : SlotRecord} {late : Bool} :
    StoreMoves s (attemptRecord l p r late t).1 := by
  unfold Machine.attemptRecord
  split
  case h_1 => exact h.modLane fun _ => storeView_modPort ..
  case h_2 =>
    split
    case isTrue fit => exact (h.admission l _ ((fits_iff ..).mp fit)).modLane fun _ => by cases p <;> rfl
    case isFalse => exact h
  case h_3 =>
    split
    case isTrue fit => exact (h.admission l _ ((fits_iff ..).mp fit)).modLane fun _ => by cases p <;> rfl
    case isFalse => exact h

theorem attempt (h : StoreMoves s t) {l : LaneId} {late : Bool} : StoreMoves s (attempt l late t).1 := by
  unfold Machine.attempt
  split
  · exact h
  · split
    · exact h
    · exact h.attemptRecord

theorem attemptChain (h : StoreMoves s t) {l : LaneId} {late : Bool} : StoreMoves s (attemptChain l late t) :=
  ite_of_both h.attempt.attempt h.attempt

theorem clearRecent (h : StoreMoves s t) {l : LaneId} : StoreMoves s (clearRecent l t) :=
  (h.modLane (l := l) (f := fun L => { L with recent := [] })).attemptChain

/-! #### A sample pass (R20) -/

theorem localKick (h : StoreMoves s t) {l : LaneId} : StoreMoves s (localKick l t) := by
  unfold Machine.localKick
  split
  · exact h
  · exact h.modDrawer

theorem classAction (h : StoreMoves s t) {l : LaneId} {cls : KeyClass} : StoreMoves s (classAction l cls t) := by
  cases cls with
  | drawer => exact ite_of_both h.localKick h
  | clearRecent => exact h.clearRecent
  | ignore | normal | shift | lockContact => exact h

theorem press (h : StoreMoves s t) {l : LaneId} {p : Nat} : StoreMoves s (press l p t) := by
  have joined : ∀ k, StoreMoves s (t.modLane l fun L => { L with held := L.held ++ [k] }) := fun _ => h.modLane
  unfold Machine.press
  split
  · unfold pressKey
    exact (joined (keyEntry t.elapsed (t.lane l) p)).offer.count.modLane.classAction
  · exact joined _

theorem release (h : StoreMoves s t) {l : LaneId} {p : Nat} : StoreMoves s (release l p t) := by
  unfold Machine.release
  split
  · exact h
  · exact (ite_of_both (P := StoreMoves s) h.offer h).modLane

theorem visit (h : StoreMoves s t) {l : LaneId} {closed : BitVec 128} {p : Nat} : StoreMoves s (visit l closed t p) := by
  have moved : ∀ k, StoreMoves s (t.modLane l fun L => { L with keys := L.keys.setIfInBounds p k }) := fun _ =>
    h.modLane
  refine ite_of_both h ?_
  unfold handOver
  split
  · exact moved _
  · exact (moved _).press
  · exact (moved _).release
  · exact (moved _).count

theorem walk (h : StoreMoves s t) {l : LaneId} {closed : BitVec 128} : StoreMoves s (walk l closed t) := by
  have visits : ∀ (ps : List Nat) {u : State}, StoreMoves s u → StoreMoves s (ps.foldl (Machine.visit l closed) u) := by
    intro ps
    induction ps with
    | nil => exact fun h => h
    | cons p ps ih => exact fun h => ih h.visit
  exact visits _ h

theorem ghostAnalysis (h : StoreMoves s t) {l : LaneId} {closed : BitVec 128} : StoreMoves s (ghostAnalysis l closed t) := by
  have marked : ∀ g, StoreMoves s (t.modLane l fun L => { L with ghost := g }) := fun _ => h.modLane
  unfold Machine.ghostAnalysis
  dsimp only
  split
  · exact marked false
  · exact ite_of_both h (marked true).count.offerFault

theorem defineLock (h : StoreMoves s t) {l : LaneId} {new : LockPos} : StoreMoves s (defineLock l new t) := by
  cases new with
  | index i => exact ite_of_both h (h.offer.raise.modLane)
  | inTransit | noLock => exact h

theorem lockNotice (h : StoreMoves s t) {l : LaneId} : StoreMoves s (lockNotice l t) := by
  have located : StoreMoves s (t.modLane l fun L => { L with lock := computeLock (t.lane l) }) := h.modLane
  have defined := located.defineLock (l := l) (new := computeLock (t.lane l))
  unfold Machine.lockNotice
  dsimp only
  split
  · exact defined
  · exact defined.attemptChain.modLane

theorem repeatNotice (h : StoreMoves s t) {l : LaneId} {high : Bool} : StoreMoves s (repeatNotice l high t) := by
  obtain e | ⟨r, k, _, _, _, e⟩ := repeatNotice_cases l high t
  · rwa [e]
  · rw [e, repeatFalls]
    split
    · exact h.modLane.count
    · exact h.modLane.offer

theorem samplePass (h : StoreMoves s t) {l : LaneId} {closed : BitVec 128} : StoreMoves s (samplePass l closed t) := by
  have begun : StoreMoves s (t.modLane l (nextPass closed)) := h.modLane
  unfold Machine.samplePass passWork notice
  split
  · exact begun.ghostAnalysis.walk.lockNotice.repeatNotice
  · exact h

/-! #### A scanner port (R60 to R71, R84 to R88) -/

theorem appendChar (h : StoreMoves s t) {l : LaneId} {p : PortId} {c : ScanChar} : StoreMoves s (appendChar l p c t) := by
  unfold Machine.appendChar
  dsimp only
  split
  · exact h.modPort
  · exact ite_of_both h.modPort h.modPort.offerFault

theorem deliverReply (h : StoreMoves s t) {l : LaneId} {p : PortId} {code : List Byte} {damaged : Bool} :
    StoreMoves s (deliverReply l p code damaged t) := by
  unfold Machine.deliverReply takeReply
  split
  · exact h.offer.raise.modPort
  · exact h.offer.raise.modPort
  · exact h.offerFault.modPort
  · exact h.offerFault

theorem enterSlot (h : StoreMoves s t) {l : LaneId} {p : PortId} {code : List Byte} {damaged : Bool} :
    StoreMoves s (enterSlot l p code damaged t) := by
  unfold Machine.enterSlot
  split
  · exact h.offerFault.lose
  · exact ite_of_both h.modPort.attemptChain h.modPort

theorem complete (h : StoreMoves s t) {l : LaneId} {p : PortId} : StoreMoves s (complete l p t) :=
  ite_of_both h.modPort.deliverReply h.modPort.enterSlot

theorem huntChar (h : StoreMoves s t) {l : LaneId} {p : PortId} {c : ScanChar} : StoreMoves s (huntChar l p c t) :=
  ite_of_both (ite_of_both h.modPort h) (ite_of_both h h.modPort.appendChar)

theorem assemblyChar (h : StoreMoves s t) {l : LaneId} {p : PortId} {c : ScanChar} : StoreMoves s (assemblyChar l p c t) :=
  ite_of_both (ite_of_both h.modPort h.complete) (ite_of_both h.offerFault.modPort h.appendChar)

theorem receiveChar (h : StoreMoves s t) {l : LaneId} {p : PortId} {c : ScanChar} : StoreMoves s (receiveChar l p c t) := by
  refine ite_of_both h.modPort ?_
  split
  · exact h.modPort
  · exact h.modPort.huntChar
  · exact h.modPort.assemblyChar
  · exact ite_of_both h.modPort.modPort h.modPort.modPort

theorem gapExpires (h : StoreMoves s t) {l : LaneId} {p : PortId} : StoreMoves s (gapExpires l p t) :=
  ite_of_both (ite_of_both (P := StoreMoves s) h.offerFault h).modPort h

theorem replyExpires (h : StoreMoves s t) {l : LaneId} {p : PortId} : StoreMoves s (replyExpires l p t) :=
  ite_of_both h.offer.offerFault.raise.modPort h

theorem takeGrowth (h : StoreMoves s t) {l : LaneId} : StoreMoves s (takeGrowth l t) := by
  have taken : StoreMoves s (t.modLane l fun L => { L with growth := false }) := h.modLane
  exact ite_of_both taken.attemptChain h

/-! #### The drawer (R145 to R156) -/

theorem newDrawer (h : StoreMoves s t) {l : LaneId} {f : Lane → Drawer} :
    StoreMoves s (t.modLane l fun L => { L with drawer := f L }) := h.modLane

theorem openAtStart (h : StoreMoves s t) {l : LaneId} : StoreMoves s (openAtStart l t) := by
  unfold Machine.openAtStart
  exact h.offer.newDrawer

theorem openCommanded (h : StoreMoves s t) {l : LaneId} : StoreMoves s (openCommanded l t) := by
  unfold Machine.openCommanded
  exact h.offer.count.newDrawer

theorem openUncommanded (h : StoreMoves s t) {l : LaneId} : StoreMoves s (openUncommanded l t) := by
  unfold Machine.openUncommanded
  exact h.offer.count.count.raise.newDrawer

theorem closeDrawer (h : StoreMoves s t) {l : LaneId} : StoreMoves s (closeDrawer l t) := by
  unfold Machine.closeDrawer
  exact h.offer.modDrawer

theorem debounced (h : StoreMoves s t) {l : LaneId} : StoreMoves s (debounced l t) := by
  unfold Machine.debounced
  dsimp only
  split
  · exact h.modDrawer.modDrawer
  · exact h.modDrawer.openAtStart
  · exact h.modDrawer.openUncommanded
  · exact h.modDrawer.openCommanded
  · exact h.modDrawer.openCommanded
  · exact h.modDrawer.closeDrawer
  · exact h.modDrawer.closeDrawer
  all_goals exact h.modDrawer

theorem takeDebounced (h : StoreMoves s t) {l : LaneId} : StoreMoves s (takeDebounced l t) := ite_of_both h.debounced h

theorem pulseExpires (h : StoreMoves s t) {l : LaneId} : StoreMoves s (pulseExpires l t) := ite_of_both h.modDrawer h

theorem retryExpires (h : StoreMoves s t) {l : LaneId} : StoreMoves s (retryExpires l t) :=
  ite_of_both h (ite_of_both h.modDrawer h.modDrawer.offer.offerFault.count.raise)

theorem openExpires (h : StoreMoves s t) {l : LaneId} : StoreMoves s (openExpires l t) :=
  ite_of_both h.offer.raise.modDrawer h

theorem abortKick (h : StoreMoves s t) {l : LaneId} : StoreMoves s (abortKick l t) :=
  ite_of_both h.modDrawer.offer.raise.modDrawer h

theorem assertInhibit (h : StoreMoves s t) {order : List LaneId} : StoreMoves s (assertInhibit order t) := by
  have aborts : ∀ (ls : List LaneId) {u : State}, StoreMoves s u → StoreMoves s (ls.foldl (fun t l => Machine.abortKick l t) u) := by
    intro ls
    induction ls with
    | nil => exact fun h => h
    | cons l ls ih => exact fun h => ih h.abortKick
  exact ite_of_both h (aborts _ (h.lanes rfl))

theorem senseLevel (h : StoreMoves s t) {l : LaneId} {high : Bool} : StoreMoves s (senseLevel l high t) :=
  h.modLane fun L => ite_of_both (P := fun L' => storeView L' = storeView L) rfl rfl

theorem stopLane (h : StoreMoves s t) {l : LaneId} : StoreMoves s (stopLane l t) := by
  have halted : StoreMoves s (t.modLane l haltedLane) := h.modLane
  rw [stopLane_eq]
  exact (ite_of_both (P := StoreMoves s) halted.offer halted).modLane

theorem removeOldest (h : StoreMoves s t) {l : LaneId} {n : Nat} : StoreMoves s (removeOldest l n t) :=
  ite_of_both h (h.removal l n)

end StoreMoves

/-! ### The requests, block by block -/

/-- A request moves the Event Store in the five ways alone. -/
def MovesStore (serve : Request) : Prop := ∀ body s, StoreMoves s (serve body s).1

theorem movesStore_withLane {n : Nat} {serve : LaneId → Request} (h : ∀ l, MovesStore (serve l)) : MovesStore (withLane n serve) := by
  intro body s
  obtain ⟨l, e⟩ | ⟨r, e⟩ := withLane_cases n serve body s
  · exact e ▸ h l body s
  · exact e ▸ .refl

theorem movesStore_withScope {n : Nat} {serve : Scope → Request} (h : ∀ scope, MovesStore (serve scope)) :
    MovesStore (withScope n serve) := by
  intro body s
  obtain ⟨l, e⟩ | ⟨r, e⟩ := withScope_cases n serve body s
  · exact e ▸ h l body s
  · exact e ▸ .refl

theorem movesStore_withLength {n : Nat} {serve : Request} (h : MovesStore serve) : MovesStore (withLength n serve) := by
  intro body s
  obtain e | ⟨r, e⟩ := withLength_cases n serve body s
  · exact e ▸ h body s
  · exact e ▸ .refl

/-- Either answer of a judgement moves the Event Store in the five ways alone. -/
theorem StoreMoves.either {s : State} {c : Prop} [Decidable c] {a b : State × List Byte} (ha : StoreMoves s a.1)
    (hb : StoreMoves s b.1) : StoreMoves s (if c then a else b).1 :=
  ite_of_both (P := fun out : State × List Byte => StoreMoves s out.1) ha hb

/-- An accepted request, its reply the result alone. -/
theorem StoreMoves.accepted {s t : State} (h : StoreMoves s t) (r : Result) : StoreMoves s (accept r t).1 := h

/-- A request with a longer reply. -/
theorem StoreMoves.answered {s t : State} (h : StoreMoves s t) (reply : List Byte) : StoreMoves s (t, reply).1 := h

theorem movesStore_identify : MovesStore serveIdentify := movesStore_withLength fun _ _ => .refl
theorem movesStore_getTime : MovesStore serveGetTime := movesStore_withLength fun _ _ => .refl
theorem movesStore_setTime : MovesStore serveSetTime := movesStore_withLength fun _ _ =>
  .either .refl (StoreMoves.refl.lanes rfl)
theorem movesStore_resetDevice : MovesStore serveResetDevice := movesStore_withLength fun _ _ => StoreMoves.refl.lanes rfl

/-- A lane configuration that is taken is within the limits of R9. -/
theorem movesStore_laneConfig : MovesStore serveLaneConfig := movesStore_withLane fun l body s => by
  dsimp only
  refine .either .refl (.either .refl ?_)
  split
  · exact .refl
  · rename_i room
    exact StoreMoves.refl.config l (laneGiven body) (by simpa using room)

theorem movesStore_start : MovesStore serveStart := movesStore_withLane fun _ _ _ =>
  .either .refl (StoreMoves.refl.modLane.offer.accepted _)
theorem movesStore_stop : MovesStore serveStop := movesStore_withLane fun _ _ _ => .either StoreMoves.refl.stopLane .refl
theorem movesStore_resetLane : MovesStore serveResetLane := movesStore_withLane fun l _ _ => StoreMoves.refl.cleared l

theorem movesStore_linesSet : MovesStore serveLinesSet := movesStore_withLane fun _ _ _ =>
  .either .refl (StoreMoves.refl.modLane.accepted _)
theorem movesStore_linesDir : MovesStore serveLinesDir := movesStore_withLane fun _ _ _ =>
  .either .refl (StoreMoves.refl.modLane.accepted _)
theorem movesStore_linesRead (outside : Outside) : MovesStore (serveLinesRead outside) := movesStore_withLane fun _ _ _ =>
  StoreMoves.refl.modLane.answered _

theorem movesStore_keymapWrite : MovesStore serveKeymapWrite := by
  intro body s
  unfold serveKeymapWrite
  refine .either ?_ (movesStore_withLane (fun l body s => .either .refl ?_) body s)
  · split
    · exact .either .refl .refl
    · exact .refl
  · split
    · exact .refl
    · exact .either .refl (StoreMoves.refl.modLane.accepted _)

theorem movesStore_keymapRead : MovesStore serveKeymapRead := movesStore_withLane fun _ _ _ => .either .refl .refl

theorem movesStore_portConfig : MovesStore servePortConfig := movesStore_withLane fun _ _ _ => by
  split
  · exact .either .refl (.either .refl StoreMoves.refl.modPort)
  · exact .refl

theorem movesStore_scannerSend : MovesStore serveScannerSend := by
  intro body s
  unfold serveScannerSend
  refine .either ?_ (movesStore_withLane (fun l body s => ?_) body s)
  · split
    · exact .either .refl .refl
    · exact .refl
  · split
    · exact .refl
    · refine .either .refl ?_
      split
      · exact .refl
      · exact StoreMoves.refl.modPort

theorem movesStore_filterConfig : MovesStore serveFilterConfig := movesStore_withLength fun _ _ =>
  .either .refl (StoreMoves.refl.lanes rfl)

theorem movesStore_symbologyWrite : MovesStore serveSymbologyWrite := by
  intro body s
  refine .either .refl (.either .refl ?_)
  split
  · exact .refl
  · exact StoreMoves.refl.lanes rfl

theorem movesStore_forget : MovesStore serveForget := movesStore_withLane fun _ _ _ => StoreMoves.refl.clearRecent
theorem movesStore_fetch : MovesStore serveFetch := movesStore_withLane fun _ _ _ => StoreMoves.refl.removeOldest
theorem movesStore_purge : MovesStore servePurge := movesStore_withLane fun _ _ _ => StoreMoves.refl.removeOldest

theorem movesStore_drawerConfig : MovesStore serveDrawerConfig := movesStore_withLane fun _ _ _ =>
  .either .refl (StoreMoves.refl.modLane.takeDebounced.accepted _)

theorem movesStore_kick : MovesStore serveKick := movesStore_withLane fun _ _ _ => by
  split
  · exact .refl
  · exact StoreMoves.refl.modDrawer

theorem movesStore_status : MovesStore serveStatus := movesStore_withScope fun scope _ _ => by
  cases scope with
  | lane l => exact StoreMoves.refl.modLane.answered _
  | device => exact StoreMoves.refl.lanes rfl

theorem movesStore_ackFlags : MovesStore serveAckFlags := movesStore_withScope fun scope _ s => by
  refine .either .refl ?_
  cases scope with
  | lane l => exact StoreMoves.refl.modLane.answered _
  | device => exact ite_of_both (P := StoreMoves s) (StoreMoves.refl.lanes rfl) .refl

theorem movesStore_attnMask : MovesStore serveAttnMask := movesStore_withScope fun scope _ _ => by
  refine .either .refl ?_
  cases scope with
  | lane l => exact StoreMoves.refl.modLane.accepted _
  | device => exact StoreMoves.refl.lanes rfl

theorem movesStore_clearFault : MovesStore serveClearFault := movesStore_withLane fun _ _ _ => StoreMoves.refl.modLane.answered _

theorem movesStore_latchCounters : MovesStore serveLatchCounters := movesStore_withLength fun _ _ =>
  .either .refl (StoreMoves.refl.same fun k => by
    rw [State.lane_mapLanes]
    exact ite_of_both (P := fun L => storeView L = _) rfl rfl)

theorem movesStore_readCounters : MovesStore serveReadCounters := movesStore_withLane fun _ _ _ => by
  dsimp only
  split
  · exact StoreMoves.refl.modLane.answered _
  · exact .refl

theorem movesStore_clearCounters : MovesStore serveClearCounters := movesStore_withLane fun _ _ _ =>
  StoreMoves.refl.modLane.accepted _

theorem movesStore_unknown : MovesStore serveUnknown := fun _ _ => .refl

/-- Every block of the dispatcher moves the Event Store in the five ways alone. -/
theorem movesStore_served (outside : Outside) : ∀ serve ∈ servedBlocks outside, MovesStore serve := by
  simp only [servedBlocks, List.forall_mem_cons]
  exact ⟨movesStore_identify, movesStore_getTime, movesStore_setTime, movesStore_resetDevice, movesStore_laneConfig,
    movesStore_start, movesStore_stop, movesStore_resetLane, movesStore_linesSet, movesStore_linesDir,
    movesStore_linesRead outside, movesStore_keymapWrite, movesStore_keymapRead, movesStore_portConfig, movesStore_scannerSend,
    movesStore_filterConfig, movesStore_symbologyWrite, movesStore_forget, movesStore_fetch, movesStore_purge,
    movesStore_drawerConfig, movesStore_kick, movesStore_status, movesStore_ackFlags, movesStore_attnMask, movesStore_clearFault,
    movesStore_latchCounters, movesStore_readCounters, movesStore_clearCounters, movesStore_unknown, nofun⟩

/-! ### Frames, commands and steps -/

namespace StoreMoves

variable {s t : State}

theorem request (h : StoreMoves s t) {outside : Outside} {kind : Byte} {body : List Byte} :
    StoreMoves s (goodFrame (requestOf outside kind) kind body t) :=
  ite_of_both h (ite_of_both (h.lanes rfl)
    (h.trans ((movesStore_served outside _ (requestOf_mem outside kind) body t).lanes rfl)))

theorem frameCompletes (h : StoreMoves s t) {outside : Outside} {kind : Byte} {body : List Byte} :
    StoreMoves s (frameCompletes (requestOf outside kind) kind body t) :=
  (h.lanes (u := { lineHunt t with lineStart := false, lineDrop := false }) rfl).request

theorem takeChars (h : StoreMoves s t) {run : LineRun} : StoreMoves s (takeChars run t) := by
  have hunted : ∀ fuel chars u, StoreMoves s u → StoreMoves s (hunt run.outside fuel chars u) :=
    hunt_keeps (fun _ _ h => h.lanes rfl) (fun _ h => h.lanes rfl) fun _ _ _ h => h.request.settle
  have given := fun chars : List LineChar => hunted chars.length chars { t with lineStart := false, lineDrop := false } (h.lanes rfl)
  exact ite_of_both h ((given _).lanes rfl)

theorem driveRows (h : StoreMoves s t) : StoreMoves s (driveRows t) :=
  h.same fun k => by
    rw [lane_driveRows]
    exact ite_of_both (P := fun L => storeView L = _) rfl rfl

end StoreMoves

/-- What every command does to the Event Store before the outputs are judged. -/
theorem exec_storeMoves (i : Instr) (s : State) : ∃ t, exec i s = done t ∧ StoreMoves s t := by
  have start := StoreMoves.refl (s := s)
  cases h : requestFrame i with
  | some frame =>
    obtain ⟨kind, body⟩ := frame
    obtain ⟨outside, e⟩ := exec_frame h s
    exact ⟨_, e, start.frameCompletes⟩
  | none =>
    cases i
    case badFrame run => exact ⟨_, rfl, start.takeChars⟩
    case gapLimitExpiry => exact ⟨_, rfl, ite_of_both (start.lanes rfl) start⟩
    case replySent => exact ⟨_, rfl, start.lanes rfl⟩
    case resetDeviceActs straps => exact ⟨_, rfl, ite_of_both (start.reset straps) start⟩
    case powerOnReset straps => exact ⟨_, rfl, start.reset straps⟩
    case samplePassEnd l closed => exact ⟨_, rfl, start.samplePass⟩
    case scannerCharacterReceived l p c => exact ⟨_, rfl, start.receiveChar⟩
    case gapTimerExpiry l p => exact ⟨_, rfl, start.gapExpires⟩
    case growthReport l => exact ⟨_, rfl, start.takeGrowth⟩
    case transmitByteSent l p => exact ⟨_, rfl, start.modPort⟩
    case replyTimerExpiry l p => exact ⟨_, rfl, start.replyExpires⟩
    case rawSensorChange l high => exact ⟨_, rfl, start.senseLevel⟩
    case debouncedChange l => exact ⟨_, rfl, start.takeDebounced⟩
    case pulseTimerExpiry l => exact ⟨_, rfl, start.pulseExpires⟩
    case retryTimerExpiry l => exact ⟨_, rfl, start.retryExpires⟩
    case openTimerExpiry l => exact ⟨_, rfl, start.openExpires⟩
    case inhNAsserted order => exact ⟨_, rfl, start.assertInhibit⟩
    case inhNReleased => exact ⟨_, rfl, start.lanes rfl⟩
    case scannerStartBit l p => exact ⟨_, rfl, start.modPort⟩
    case systemLineStartBit => exact ⟨_, rfl, start.lanes rfl⟩
    all_goals cases h

/-- All that an idle step can do to the lane sections is to drive rows. -/
theorem idle_storeMoves (s : State) : StoreMoves s (idle s) := by
  have start := StoreMoves.refl (s := s)
  obtain ⟨-, e⟩ | ⟨-, -, e⟩ | ⟨-, -, e⟩ := idle_cases s <;> rw [e]
  · exact start.driveRows
  · exact start.lanes rfl
  · exact start.lanes rfl

/-- Every step moves the Event Store in the five ways alone. -/
theorem step_storeMoves {s t : State} (h : step s = .next t) : StoreMoves s t := by
  unfold step at h
  split at h
  · cases h
    exact idle_storeMoves s
  · rename_i i rest _
    obtain ⟨u, e, moves⟩ := exec_storeMoves i { s with pending := rest }
    cases e.symm.trans h
    have taken : StoreMoves s { s with pending := rest } := StoreMoves.refl.lanes rfl
    exact (taken.trans moves).settle

end Sys2Proof.Machine
end

section
/-! PROOFS. O55: store-high is as the last recompute judged it (R129), and HOLD and ATTN as the end of the last event did (R73,
R169). -/

namespace Sys2Proof.Machine

/-! ### Store-high (R129) -/

/-- A recompute leaves every store-high state as R129 judges it, whatever it was before. -/
theorem highLaw_recompute (old s : State) : HighLaw (recompute old s) := fun l => by
  rw [headroom_recompute, lane_recompute, recomputeLane_storeHigh, recomputeLane_cfg, judgeHigh]
  refine ⟨fun low => if_pos low, fun high => ?_⟩
  rw [if_neg (by omega), if_pos high]

theorem HighLaw.of_storeView {s t : State} (same : ∀ k : LaneId, storeView (t.lane k) = storeView (s.lane k)) (h : HighLaw s) :
    HighLaw t := by
  simp only [storeView, Prod.mk.injEq] at same
  intro l
  obtain ⟨hcfg, -, hhigh⟩ := same l
  rw [headroom_congr (fun k => ⟨(same k).1, (same k).2.1⟩) l, hcfg, hhigh]
  exact h l

/-- At reset every lane has the headroom of its cap, 256, and is out of store-high (R129, Table 1-7). -/
theorem highLaw_resetAll (straps : BitVec 2) (s : State) : HighLaw (resetAll straps s) := by
  intro l
  have room : headroom (resetAll straps s) l = 256 := by
    simp [headroom, headroomOf, freeShared, sharedPart, sumLanes_eq, sharedUse, occupancy, resetLaneSection, Config.poolSlots]
  rw [room, lane_resetAll]
  simp [resetLaneSection]

theorem StoreMoves.highLaw {s t : State} (h : StoreMoves s t) (hs : HighLaw s) : HighLaw t := by
  induction h with
  | refl => exact hs
  | same _ e ih => exact ih.of_storeView e
  | reset straps => exact highLaw_resetAll straps _
  | admission | removal | config | cleared => exact highLaw_recompute _ _

/-! ### The outputs (R73, R169) -/

theorem holdLevel_eq (L : Lane) (P : Port) :
    holdLevel L P =
      decide (L.run ≠ .running ∨ P.cfg.enabled = false ∨ P.slot ≠ none ∨ L.storeHigh = true ∨ scanAllowed L = false) := by
  rw [Bool.eq_iff_iff, decide_eq_true_eq]
  simp [holdLevel, or_assoc, Option.isSome_iff_ne_none]

theorem holdRight_holdLevel (L : Lane) (P : Port) : HoldRight (settleLane L) { P with hold := holdLevel L P } := by
  unfold HoldRight
  rw [holdLevel_eq, decide_eq_true_eq]
  rfl

theorem attnLevel_eq (s : State) :
    attnLevel s =
      decide (deviceFlags s &&& s.deviceEnable ≠ 0 ∨ ∃ l : LaneId, laneFlags (s.lane l) &&& (s.lane l).enable ≠ 0) := by
  have lanes : (∃ L ∈ s.lanes.toList, laneFlags L &&& L.enable ≠ 0) ↔
      ∃ l : LaneId, laneFlags (s.lane l) &&& (s.lane l).enable ≠ 0 := by
    simp only [Vector.mem_toList_iff, Vector.mem_iff_getElem]
    constructor
    · rintro ⟨L, ⟨i, hi, rfl⟩, h⟩
      exact ⟨⟨i, hi⟩, h⟩
    · rintro ⟨l, h⟩
      exact ⟨_, ⟨l.val, l.isLt, rfl⟩, h⟩
  rw [Bool.eq_iff_iff, decide_eq_true_eq, ← lanes]
  simp [attnLevel, scopeCalls, -Vector.any_toList]

theorem attnLevel_settled (s : State) : attnLevel (s.mapLanes fun _ L => settleLane L) = attnLevel s := by
  simp only [attnLevel_eq, State.lane_mapLanes]
  rfl

/-- The end of an event judges the outputs and changes nothing else (R74, R169; log entry 13). -/
theorem settle_eq (s : State) : settle s = { (s.mapLanes fun _ L => settleLane L) with attn := attnLevel s } := by
  rw [settle, attnLevel_settled]

/-- The outputs are right at the end of every event. -/
theorem outputLaw_settle (s : State) : OutputLaw (settle s) := by
  refine ⟨fun l => ?_, ?_⟩
  · rw [lane_settle]
    exact ⟨holdRight_holdLevel _ _, holdRight_holdLevel _ _⟩
  · have attn : (settle s).attn = attnLevel (settle s) := rfl
    rw [attn, attnLevel_eq, decide_eq_true_eq]

/-- The outputs, and what they are judged by. -/
def outputView (L : Lane) :=
  ((L.run, L.cfg, L.lock, L.storeHigh), (L.portA, L.portB), (L.sticky, L.queue, L.fault, L.enable))

theorem OutputLaw.of_view {s t : State} (same : ∀ k : LaneId, outputView (t.lane k) = outputView (s.lane k))
    (device : t.attn = s.attn ∧ deviceFlags t = deviceFlags s ∧ t.deviceEnable = s.deviceEnable) (h : OutputLaw s) :
    OutputLaw t := by
  simp only [outputView, Prod.mk.injEq] at same
  simpa only [OutputLaw, HoldRight, scanAllowed, laneFlags, device, same] using h

theorem OutputLaw.idle {s : State} (h : OutputLaw s) : OutputLaw (idle s) := by
  obtain ⟨-, e⟩ | ⟨-, -, e⟩ | ⟨-, -, e⟩ := idle_cases s <;> rw [e]
  · refine .of_view (s := s) (fun k => ?_) ⟨rfl, rfl, rfl⟩ h
    rw [lane_driveRows]
    split <;> rfl
  · exact .of_view (s := s) (fun _ => rfl) ⟨rfl, rfl, rfl⟩ h
  · exact .of_view (s := s) (fun _ => rfl) ⟨rfl, rfl, rfl⟩ h

theorem step_outputLaw {s t : State} (h : step s = .next t) (hs : OutputLaw s) : OutputLaw t := by
  unfold step at h
  split at h
  · cases h
    exact hs.idle
  · rename_i i rest _
    obtain ⟨u, e⟩ := exec_settles i { s with pending := rest }
    cases e.symm.trans h
    exact outputLaw_settle u

/-- Settles O55. -/
theorem holdAndAttnLawKept : Obligations.HoldAndAttnLawKept := by
  refine ⟨fun s => ?_, fun s t high outputs h => ⟨(step_storeMoves h).highLaw high, step_outputLaw h outputs⟩,
    fun s l high outputs low => ?_⟩
  · rw [settle_eq, attnLevel_eq]
    simp only [settleLane, holdLevel_eq]
  · have asserted : (s.lane l).run ≠ .running ∨ (s.lane l).storeHigh = true := low.symm.imp_right (high l).1
    obtain ⟨holdA, holdB⟩ := outputs.1 l
    exact ⟨holdA.mpr (by tauto), holdB.mpr (by tauto)⟩

end Sys2Proof.Machine
end

section
/-! PROOFS. What a character does at a scanner port. Changes of one port are composed and compared once; a character is read as its
value and its fault; and each receiver state of Table 4-3 has one lemma for every branch of its row. -/

namespace Sys2Proof.Machine

open Sys2Proof.Claims

/-! ### Changes of one port -/

@[simp] theorem State.modPort_elapsed (s : State) (l : LaneId) (p : PortId) (f : Port → Port) :
    (s.modPort l p f).elapsed = s.elapsed := rfl
@[simp] theorem State.modPort_clock (s : State) (l : LaneId) (p : PortId) (f : Port → Port) :
    (s.modPort l p f).clock = s.clock := rfl

theorem Lane.modPort_modPort (L : Lane) (p : PortId) (f g : Port → Port) :
    (L.modPort p f).modPort p g = L.modPort p fun P => g (f P) := by
  cases p <;> rfl

theorem Lane.modPort_congr {L : Lane} {p : PortId} {f g : Port → Port} (h : f (L.port p) = g (L.port p)) :
    L.modPort p f = L.modPort p g := by
  cases p
  · exact congrArg (fun P => { L with portA := P }) h
  · exact congrArg (fun P => { L with portB := P }) h

/-- Two changes of one port are one. -/
theorem State.modPort_modPort (s : State) (l : LaneId) (p : PortId) (f g : Port → Port) :
    (s.modPort l p f).modPort l p g = s.modPort l p fun P => g (f P) := by
  simp only [State.modPort, State.modLane_modLane, Lane.modPort_modPort]

/-- A change of a port is its effect on that port as it stands. -/
theorem State.modPort_congr {s : State} {l : LaneId} {p : PortId} {f g : Port → Port} (h : f (s.port l p) = g (s.port l p)) :
    s.modPort l p f = s.modPort l p g :=
  State.modLane_congr (Lane.modPort_congr h)

/-- A fault and a change of a port are independent of each other. -/
theorem offerFault_modPort (l : LaneId) (p : PortId) (kind : FaultKind) (src : FaultSource) (n : Nat) (f : Port → Port)
    (s : State) : (offerFault l kind src n s).modPort l p f = offerFault l kind src n (s.modPort l p f) := by
  simp only [offerFault, State.modPort, State.modLane_modLane, State.modLane_clock]
  exact State.modLane_congr (by cases p <;> rfl)

@[simp] theorem port_offerFault (l : LaneId) (p : PortId) (kind : FaultKind) (src : FaultSource) (n : Nat) (s : State) :
    (offerFault l kind src n s).port l p = s.port l p := by
  cases p <;> simp [offerFault, State.port]

@[simp] theorem run_modPort (s : State) (l : LaneId) (p : PortId) (f : Port → Port) :
    ((s.modPort l p f).lane l).run = (s.lane l).run := by
  simp [State.modPort]

/-! ### The parts of a port's changes, written out -/

theorem startGap_eq (now : Nat) (P : Port) : startGap now P = { P with gap := gapFrom now P.cfg } := rfl

theorem appendByte_eq (now : Nat) (v : Byte) (bad : Bool) (P : Port) :
    appendByte now v bad P =
      { P with buf := P.buf ++ [v], damaged := P.damaged || bad, firstDamaged := if P.buf = [] then bad else P.firstDamaged
               lineFault := P.lineFault || bad, gap := gapFrom now P.cfg } := by
  simp only [appendByte, startGap_eq, List.isEmpty_iff]

/-- The marks of a character in progress cleared, as its completion does (log entry 11). -/
def clearMarks (P : Port) : Port := { P with charStart := false, charDrop := false }

theorem replyMarked_iff (P : Port) : replyMarked P = true ↔ ReplyMarked P := by
  simp [replyMarked, ReplyMarked, and_assoc]

/-! ### The value and the fault of a character (R60; log entry 17) -/

/-- Two characters that a port of a format takes alike. -/
def SameChar (cfg : PortConfig) (c c' : ScanChar) : Prop :=
  charValue cfg c = charValue cfg c' ∧ charFault cfg c = charFault cfg c'

theorem and_lowSeven {v : Byte} (h : v.toNat ≤ 0x7F) : v &&& 0x7F = v := by
  apply BitVec.eq_of_toNat_eq
  rw [BitVec.toNat_and]
  exact Nat.and_two_pow_sub_one_of_lt_two_pow (n := 7) (by omega)

/-- A character of the port's data bits is taken with its value, but for a break. -/
theorem charValue_of_dataBits {cfg : PortConfig} {v : Byte} (h : DataBits cfg v) {q : Quality} (hq : q ≠ .brk) :
    charValue cfg { value := v, quality := q } = v := by
  unfold charValue
  dsimp only
  rw [if_neg hq]
  split
  case isTrue seven => exact and_lowSeven (h seven)
  case isFalse => rfl

@[simp] theorem charFault_good (cfg : PortConfig) (v : Byte) : charFault cfg { value := v, quality := .good } = none := rfl

theorem ne_brk_of_damages {cfg : PortConfig} {q : Quality} {kind : FaultKind} (h : Damages cfg q kind) : q ≠ .brk := by
  obtain ⟨rfl, -⟩ | ⟨rfl, -⟩ := h <;> decide

theorem charFault_of_damages {cfg : PortConfig} {q : Quality} {kind : FaultKind} (h : Damages cfg q kind) (v : Byte) :
    charFault cfg { value := v, quality := q } = some kind := by
  obtain ⟨rfl, rfl⟩ | ⟨rfl, parity, rfl⟩ := h
  · rfl
  · simp [charFault, parity]

theorem goodByte_good {cfg : PortConfig} {v : Byte} (h : DataBits cfg v) (b : Byte) :
    goodByte cfg { value := v, quality := .good } b = decide (v = b) := by
  rw [goodByte, charValue_of_dataBits h (by decide)]
  rfl

/-- A damaged character is no good byte, whatever its value. -/
theorem goodByte_of_damages {cfg : PortConfig} {q : Quality} {kind : FaultKind} (h : Damages cfg q kind) (v b : Byte) :
    goodByte cfg { value := v, quality := q } b = false := by
  rw [goodByte, charFault_of_damages h]
  rfl

theorem goodByte_congr {cfg : PortConfig} {c c' : ScanChar} (h : SameChar cfg c c') (b : Byte) :
    goodByte cfg c b = goodByte cfg c' b := by
  rw [goodByte, goodByte, h.1, h.2]

/-! ### A character appended (R64, R67) -/

theorem appendChar_good {l : LaneId} {p : PortId} {v : Byte} {s : State} (h : DataBits (s.port l p).cfg v) :
    appendChar l p { value := v, quality := .good } s = s.modPort l p (appendByte s.elapsed v false) := by
  simp only [appendChar, charFault_good, charValue_of_dataBits h (by decide : Quality.good ≠ .brk)]
  rfl

/-- The first damaged byte of a record raises its fault, with its value (R67). -/
theorem appendChar_damaged {l : LaneId} {p : PortId} {v : Byte} {q : Quality} {kind : FaultKind} {s : State}
    (h : DataBits (s.port l p).cfg v) (hq : Damages (s.port l p).cfg q kind) :
    appendChar l p { value := v, quality := q } s =
      if (s.port l p).lineFault then s.modPort l p (appendByte s.elapsed v true)
      else offerFault l kind (.port p) v.toNat (s.modPort l p (appendByte s.elapsed v true)) := by
  simp only [appendChar, charFault_of_damages hq, charValue_of_dataBits h (ne_brk_of_damages hq)]
  rfl

theorem appendChar_congr {l : LaneId} {p : PortId} {c c' : ScanChar} {s : State} (h : SameChar (s.port l p).cfg c c') :
    appendChar l p c s = appendChar l p c' s := by
  simp only [appendChar, h.1, h.2]

/-! ### The receiver states (Table 4-3) -/

section Rows

variable {l : LaneId} {p : PortId} {c : ScanChar} {s : State}

theorem huntChar_prefixed (h : (s.port l p).cfg.pre.present = true) :
    huntChar l p c s =
      if goodByte (s.port l p).cfg c (s.port l p).cfg.pre.value then s.modPort l p fun P => startGap s.elapsed (toAssembly P)
      else s :=
  if_pos h

theorem huntChar_bare (h : (s.port l p).cfg.pre.present = false) :
    huntChar l p c s =
      if goodByte (s.port l p).cfg c (s.port l p).cfg.terminator then s else appendChar l p c (s.modPort l p toAssembly) :=
  if_neg (by simp [h])

theorem assemblyChar_empty (h : goodByte (s.port l p).cfg c (s.port l p).cfg.terminator = true) (hbuf : (s.port l p).buf = []) :
    assemblyChar l p c s = s.modPort l p toHunt :=
  (if_pos h).trans (if_pos (by simp [hbuf]))

theorem assemblyChar_completes (h : goodByte (s.port l p).cfg c (s.port l p).cfg.terminator = true)
    (hbuf : (s.port l p).buf ≠ []) : assemblyChar l p c s = complete l p s :=
  (if_pos h).trans (if_neg (by simp [hbuf]))

theorem assemblyChar_appends (h : goodByte (s.port l p).cfg c (s.port l p).cfg.terminator = false)
    (hlen : (s.port l p).buf.length < 48) : assemblyChar l p c s = appendChar l p c s :=
  (if_neg (by simp [h])).trans (if_neg (Nat.not_le.mpr hlen))

theorem assemblyChar_overfills (h : goodByte (s.port l p).cfg c (s.port l p).cfg.terminator = false)
    (hlen : 48 ≤ (s.port l p).buf.length) : assemblyChar l p c s = recordTooLong l p s :=
  (if_neg (by simp [h])).trans (if_pos hlen)

/-- A 49th byte (R65). -/
theorem recordTooLong_eq {first : Byte} {rest : List Byte} (hbuf : (s.port l p).buf = first :: rest) :
    recordTooLong l p s =
      (offerFault l .recordTooLong (.port p) first.toNat s).modPort l p fun P =>
        startGap s.elapsed { toHunt P with rx := .skip } := by
  rw [recordTooLong, hbuf]
  rfl

/-- A completed record that is reply-marked goes to the expectation logic (R69). -/
theorem complete_replyMarked (h : ReplyMarked (s.port l p)) :
    complete l p s = deliverReply l p (s.port l p).buf (s.port l p).damaged (s.modPort l p toHunt) :=
  if_pos ((replyMarked_iff _).mpr h)

/-- A completed record that is not reply-marked goes to its slot (R70). -/
theorem complete_scan (h : ¬ReplyMarked (s.port l p)) :
    complete l p s = enterSlot l p (s.port l p).buf (s.port l p).damaged (s.modPort l p toHunt) :=
  if_neg fun marked => h ((replyMarked_iff _).mp marked)

theorem enterSlot_occupied {code : List Byte} {damaged : Bool} {held : SlotRecord} (h : (s.port l p).slot = some held) :
    enterSlot l p code damaged s = lose l (offerFault l .recordOverrun (.port p) code.length s) := by
  rw [enterSlot, h]

end Rows

/-! ### A character received (R61) -/

/-- A port whose receiver takes the next character: its lane runs, it is enabled, and the character's start bit came after START. -/
structure Listens (s : State) (l : LaneId) (p : PortId) : Prop where
  run : (s.lane l).run = .running
  enabled : (s.port l p).cfg.enabled = true
  noDrop : (s.port l p).charDrop = false

theorem receiveChar_discarded {l : LaneId} {p : PortId} {s : State}
    (h : (s.lane l).run = .ready ∨ (s.port l p).cfg.enabled = false ∨ (s.port l p).charDrop = true) (c : ScanChar) :
    receiveChar l p c s = s.modPort l p clearMarks := by
  refine if_pos ?_
  rw [State.port] at h ⊢
  obtain hrun | hoff | hdrop := h <;> simp [listening, *]

section Received

variable {l : LaneId} {p : PortId} {s : State} (hl : Listens s l p)

include hl

theorem receiveChar_listens (c : ScanChar) :
    receiveChar l p c s =
      match (s.port l p).rx with
      | .ignoring => s.modPort l p clearMarks
      | .hunt => huntChar l p c (s.modPort l p clearMarks)
      | .assembly => assemblyChar l p c (s.modPort l p clearMarks)
      | .skip => skipChar l p c (s.modPort l p clearMarks) := by
  have enabled := hl.enabled
  rw [State.port] at enabled
  refine (if_neg ?_).trans ?_
  · simp [hl.noDrop, listening, hl.run, enabled]
  · cases (s.port l p).rx <;> rfl

theorem exec_character_hunt (h : (s.port l p).rx = .hunt) (c : ScanChar) :
    exec (.scannerCharacterReceived l p c) s = .next (settle (huntChar l p c (s.modPort l p clearMarks))) := by
  show done (receiveChar l p c s) = _
  rw [receiveChar_listens hl, h]
  rfl

theorem exec_character_assembly (h : (s.port l p).rx = .assembly) (c : ScanChar) :
    exec (.scannerCharacterReceived l p c) s = .next (settle (assemblyChar l p c (s.modPort l p clearMarks))) := by
  show done (receiveChar l p c s) = _
  rw [receiveChar_listens hl, h]
  rfl

theorem exec_character_skip (h : (s.port l p).rx = .skip) (c : ScanChar) :
    exec (.scannerCharacterReceived l p c) s = .next (settle (skipChar l p c (s.modPort l p clearMarks))) := by
  show done (receiveChar l p c s) = _
  rw [receiveChar_listens hl, h]
  rfl

end Received

@[simp] theorem clearMarks_cfg (P : Port) : (clearMarks P).cfg = P.cfg := rfl
@[simp] theorem clearMarks_buf (P : Port) : (clearMarks P).buf = P.buf := rfl
@[simp] theorem clearMarks_lineFault (P : Port) : (clearMarks P).lineFault = P.lineFault := rfl
@[simp] theorem clearMarks_damaged (P : Port) : (clearMarks P).damaged = P.damaged := rfl
@[simp] theorem clearMarks_slot (P : Port) : (clearMarks P).slot = P.slot := rfl
@[simp] theorem clearMarks_replyMarked (P : Port) : ReplyMarked (clearMarks P) ↔ ReplyMarked P := Iff.rfl

end Sys2Proof.Machine
end

section
/-! PROOFS. O27 and O28: characters discarded, masked and appended. -/

namespace Sys2Proof.Machine

open Sys2Proof.Claims

/-! ### Characters taken alike (R60) -/

theorem sameChar_masked {cfg : PortConfig} (h : cfg.sevenBits = true) (c : ScanChar) :
    SameChar cfg c { value := c.value &&& 0x7F, quality := c.quality } := by
  have masked : (c.value &&& 0x7F) &&& 0x7F = c.value &&& 0x7F := by rw [BitVec.and_assoc, BitVec.and_self]
  exact ⟨by simp only [charValue, h, if_true, masked], rfl⟩

theorem sameChar_break (cfg : PortConfig) (v : Byte) :
    SameChar cfg { value := v, quality := .brk } { value := 0x00, quality := .framing } := by
  refine ⟨?_, rfl⟩
  have zero : DataBits cfg 0x00 := fun _ => Nat.zero_le _
  exact (charValue_of_dataBits zero (by decide)).symm

section

variable {l : LaneId} {p : PortId} {c c' : ScanChar} {s : State} (h : SameChar (s.port l p).cfg c c')

include h

theorem huntChar_congr : huntChar l p c s = huntChar l p c' s := by
  have assembled : SameChar ((s.modPort l p toAssembly).port l p).cfg c c' := by rw [port_modPort_same]; exact h
  simp only [huntChar, goodByte_congr h, appendChar_congr assembled]

theorem assemblyChar_congr : assemblyChar l p c s = assemblyChar l p c' s := by
  simp only [assemblyChar, goodByte_congr h, appendChar_congr h]

theorem skipChar_congr : skipChar l p c s = skipChar l p c' s := by
  simp only [skipChar, goodByte_congr h]

/-- Characters that a port takes alike do the same. -/
theorem exec_character_congr : exec (.scannerCharacterReceived l p c) s = exec (.scannerCharacterReceived l p c') s := by
  have marked : SameChar ((s.modPort l p clearMarks).port l p).cfg c c' := by rw [port_modPort_same]; exact h
  have e : receiveChar l p c s = receiveChar l p c' s := by
    unfold receiveChar
    dsimp only
    split
    · rfl
    · split
      · rfl
      · exact huntChar_congr marked
      · exact assemblyChar_congr marked
      · exact skipChar_congr marked
  exact congrArg done e

end

/-- Settles O27. -/
theorem charactersDiscardedOrMasked : Obligations.CharactersDiscardedOrMasked := by
  intro l p c s
  exact ⟨fun h => congrArg done (receiveChar_discarded h c), fun seven => exec_character_congr (sameChar_masked seven c),
    exec_character_congr (sameChar_break _ _)⟩

/-! ### O28: a character appended -/

section

variable {l : LaneId} {p : PortId} {v : Byte} {s : State} (hl : Listens s l p) (hrx : (s.port l p).rx = .assembly)
  (hlen : (s.port l p).buf.length < 48) (hv : DataBits (s.port l p).cfg v)

include hl hrx hlen hv

theorem exec_character_good (h : v ≠ (s.port l p).cfg.terminator) :
    exec (.scannerCharacterReceived l p { value := v, quality := .good }) s =
      .next (settle (s.modPort l p fun P => appendByte s.elapsed v false (clearMarks P))) := by
  rw [exec_character_assembly hl hrx, assemblyChar_appends, appendChar_good, State.modPort_modPort]
  · rfl
  · simpa using hv
  · rw [port_modPort_same, clearMarks_cfg, goodByte_good hv, decide_eq_false h]
  · simpa using hlen

/-- A damaged character is appended, and raises its fault if it is the first of its record (R67). -/
theorem exec_character_damaged {q : Quality} {kind : FaultKind} (hq : Damages (s.port l p).cfg q kind) :
    exec (.scannerCharacterReceived l p { value := v, quality := q }) s =
      .next (settle
        (if (s.port l p).lineFault then s.modPort l p fun P => appendByte s.elapsed v true (clearMarks P)
         else offerFault l kind (.port p) v.toNat (s.modPort l p fun P => appendByte s.elapsed v true (clearMarks P)))) := by
  rw [exec_character_assembly hl hrx, assemblyChar_appends, appendChar_damaged, State.modPort_modPort]
  · rw [port_modPort_same]; rfl
  · simpa using hv
  · simpa using hq
  · rw [port_modPort_same, clearMarks_cfg, goodByte_of_damages hq]
  · simpa using hlen

end

theorem damages_framing (cfg : PortConfig) : Damages cfg .framing .lineFraming := .inl ⟨rfl, rfl⟩

theorem damages_parity {cfg : PortConfig} (h : cfg.parity ≠ .none) : Damages cfg .parity .lineParity := .inr ⟨rfl, h, rfl⟩

/-- Settles O28. -/
theorem characterAppended : Obligations.CharacterAppended := by
  intro l p v s hrun hen hdrop hrx hlen hv appended
  have hl : Listens s l p := ⟨hrun, hen, hdrop⟩
  have joins : ∀ bad, (fun P => appendByte s.elapsed v bad (clearMarks P)) = appended bad := fun bad => funext fun P =>
    appendByte_eq ..
  refine ⟨fun hterm hbuf => ?_, fun hterm => ?_, fun later => ⟨fun parity => ?_, ?_⟩, fun first => ⟨fun parity => ?_, ?_⟩⟩
  · rw [exec_character_assembly hl hrx, assemblyChar_empty, State.modPort_modPort]
    · rfl
    · rw [port_modPort_same, clearMarks_cfg, goodByte_good hv, decide_eq_true hterm]
    · simpa using hbuf
  · rw [exec_character_good hl hrx hlen hv hterm, joins]
  · rw [exec_character_damaged hl hrx hlen hv (damages_parity parity), if_pos later, joins]
  · rw [exec_character_damaged hl hrx hlen hv (damages_framing _), if_pos later, joins]
  · rw [exec_character_damaged hl hrx hlen hv (damages_parity parity), if_neg (by simp [first]), joins]
  · rw [exec_character_damaged hl hrx hlen hv (damages_framing _), if_neg (by simp [first]), joins]

end Sys2Proof.Machine
end

section
/-! PROOFS. O29: the rows of Table 4-3 in HUNT and SKIP, the 49th byte, and the overrun. -/

namespace Sys2Proof.Machine

open Sys2Proof.Claims

section

variable {l : LaneId} {p : PortId} {c : ScanChar} {s : State} (hl : Listens s l p)

include hl

/-! ### HUNT (R62, R63) -/

theorem exec_hunt_prefixed (hrx : (s.port l p).rx = .hunt) (h : (s.port l p).cfg.pre.present = true) :
    exec (.scannerCharacterReceived l p c) s =
      .next (settle
        (if goodByte (s.port l p).cfg c (s.port l p).cfg.pre.value then
          s.modPort l p fun P => startGap s.elapsed (toAssembly (clearMarks P))
        else s.modPort l p clearMarks)) := by
  rw [exec_character_hunt hl hrx, huntChar_prefixed (by simpa using h), State.modPort_modPort, port_modPort_same]
  rfl

theorem exec_hunt_bare (hrx : (s.port l p).rx = .hunt) (h : (s.port l p).cfg.pre.present = false) :
    exec (.scannerCharacterReceived l p c) s =
      .next (settle
        (if goodByte (s.port l p).cfg c (s.port l p).cfg.terminator then s.modPort l p clearMarks
        else appendChar l p c (s.modPort l p fun P => toAssembly (clearMarks P)))) := by
  rw [exec_character_hunt hl hrx, huntChar_bare (by simpa using h), State.modPort_modPort, port_modPort_same]
  rfl

/-! ### SKIP (R65) -/

theorem exec_skip (hrx : (s.port l p).rx = .skip) :
    exec (.scannerCharacterReceived l p c) s =
      .next (settle
        (if goodByte (s.port l p).cfg c (s.port l p).cfg.terminator then s.modPort l p fun P => toHunt (clearMarks P)
        else s.modPort l p fun P => startGap s.elapsed (clearMarks P))) := by
  rw [exec_character_skip hl hrx, skipChar, port_modPort_same, State.modPort_modPort, State.modPort_modPort]
  rfl

/-! ### A 49th byte (R65) -/

theorem exec_overfilled (hrx : (s.port l p).rx = .assembly) {first : Byte} {rest : List Byte}
    (hbuf : (s.port l p).buf = first :: rest) (hlen : rest.length = 47)
    (hc : goodByte (s.port l p).cfg c (s.port l p).cfg.terminator = false) :
    exec (.scannerCharacterReceived l p c) s =
      .next (settle ((offerFault l .recordTooLong (.port p) first.toNat s).modPort l p fun P =>
        startGap s.elapsed { toHunt (clearMarks P) with rx := .skip })) := by
  have full : 48 ≤ ((s.modPort l p clearMarks).port l p).buf.length := by
    rw [port_modPort_same, clearMarks_buf, hbuf, List.length_cons, hlen]
  have kept : ((s.modPort l p clearMarks).port l p).buf = first :: rest := by rw [port_modPort_same]; exact hbuf
  rw [exec_character_assembly hl hrx, assemblyChar_overfills (by rw [port_modPort_same]; exact hc) full, recordTooLong_eq kept,
    offerFault_modPort, State.modPort_modPort, offerFault_modPort]
  rfl

/-! ### A record completed (R69 to R71) -/

/-- A good terminator completes the bytes held. -/
theorem exec_completes (hrx : (s.port l p).rx = .assembly) (hterm : DataBits (s.port l p).cfg (s.port l p).cfg.terminator)
    (hbuf : (s.port l p).buf ≠ []) :
    exec (.scannerCharacterReceived l p { value := (s.port l p).cfg.terminator, quality := .good }) s =
      .next (settle (complete l p (s.modPort l p clearMarks))) := by
  rw [exec_character_assembly hl hrx, assemblyChar_completes]
  · rw [port_modPort_same, clearMarks_cfg, goodByte_good hterm, decide_eq_true rfl]
  · simpa using hbuf

/-- A completed record that is not reply-marked goes to its slot, its port back in HUNT with nothing held. -/
theorem exec_completes_scan (hrx : (s.port l p).rx = .assembly)
    (hterm : DataBits (s.port l p).cfg (s.port l p).cfg.terminator) (hbuf : (s.port l p).buf ≠ [])
    (hscan : ¬ReplyMarked (s.port l p)) :
    exec (.scannerCharacterReceived l p { value := (s.port l p).cfg.terminator, quality := .good }) s =
      .next (settle (enterSlot l p (s.port l p).buf (s.port l p).damaged (s.modPort l p completedPort))) := by
  rw [exec_completes hl hrx hterm hbuf, complete_scan (by simpa using hscan), State.modPort_modPort, port_modPort_same]
  rfl

end

/-- A first byte that is damaged marks its record and raises its fault (R63, R67). -/
theorem appendChar_first_damaged {l : LaneId} {p : PortId} {v : Byte} {q : Quality} {kind : FaultKind} {s : State}
    (hv : DataBits (s.port l p).cfg v) (hq : Damages (s.port l p).cfg q kind) :
    appendChar l p { value := v, quality := q } (s.modPort l p fun P => toAssembly (clearMarks P)) =
      offerFault l kind (.port p) v.toNat
        (s.modPort l p fun P => appendByte s.elapsed v true (toAssembly (clearMarks P))) := by
  rw [appendChar_damaged (kind := kind), State.modPort_modPort, if_neg]
  · rfl
  · rw [port_modPort_same]; exact Bool.false_ne_true
  · rw [port_modPort_same]; exact hv
  · rw [port_modPort_same]; exact hq

theorem appendChar_first_good {l : LaneId} {p : PortId} {v : Byte} {s : State} (hv : DataBits (s.port l p).cfg v) :
    appendChar l p { value := v, quality := .good } (s.modPort l p fun P => toAssembly (clearMarks P)) =
      s.modPort l p fun P => appendByte s.elapsed v false (toAssembly (clearMarks P)) := by
  rw [appendChar_good (by rw [port_modPort_same]; exact hv), State.modPort_modPort]
  rfl

/-- Settles O29. -/
theorem huntFortyNinthByteAndOverrun : Obligations.HuntFortyNinthByteAndOverrun := by
  intro l p v s hrun hen hdrop hv c damaged idlePort
  have hl : Listens s l p := ⟨hrun, hen, hdrop⟩
  have good : ∀ b, goodByte (s.port l p).cfg c b = decide (v = b) := goodByte_good hv
  have bad : ∀ {q kind}, Damages (s.port l p).cfg q kind → ∀ b, goodByte (s.port l p).cfg (damaged q) b = false :=
    fun hq => goodByte_of_damages hq v
  refine ⟨fun hrx hpre => ⟨fun h => ?_, fun h => ?_, fun q kind hq => ?_⟩,
    fun first rest hrx hbuf hlen => ⟨fun h => ?_, fun q kind hq => ?_⟩,
    fun held hrx hbuf h hscan hslot => ?_,
    fun hrx hpre => ⟨fun h => ?_, fun h => ?_, fun q kind hq => ?_⟩,
    fun hrx => ⟨fun h => ?_, fun h => ?_, fun q kind hq => ?_⟩⟩
  · rw [exec_hunt_prefixed hl hrx hpre, good, decide_eq_true h]; rfl
  · rw [exec_hunt_prefixed hl hrx hpre, good, decide_eq_false h]; rfl
  · rw [exec_hunt_prefixed hl hrx hpre, bad hq]; rfl
  · exact exec_overfilled hl hrx hbuf hlen (by rw [good, decide_eq_false h])
  · exact exec_overfilled hl hrx hbuf hlen (bad hq _)
  · subst h
    rw [exec_completes_scan hl hrx hv hbuf hscan, enterSlot_occupied (held := held) (by rw [port_modPort_same]; exact hslot)]
    rfl
  · rw [exec_hunt_bare hl hrx hpre, good, decide_eq_true h]; rfl
  · rw [exec_hunt_bare hl hrx hpre, good, decide_eq_false h, if_neg Bool.false_ne_true, appendChar_first_good hv]
    rfl
  · rw [exec_hunt_bare hl hrx hpre, bad hq, if_neg Bool.false_ne_true, appendChar_first_damaged hv hq]
    rfl
  · rw [exec_skip hl hrx, good, decide_eq_true h]; rfl
  · rw [exec_skip hl hrx, good, decide_eq_false h]; rfl
  · rw [exec_skip hl hrx, bad hq]; rfl

end Sys2Proof.Machine
end

section
/-! PROOFS. O31, and the transmitter: bytes begun and sent, replies as they complete, and the timers of a port. -/

namespace Sys2Proof.Machine

open Sys2Proof.Claims

/-! ### The transmitter (R76, R83) -/

/-- With nothing in transmission the oldest queued byte begins (R76). -/
theorem beginNext_idle {P : Port} (h : P.tx = none) : beginNext P = nextByte P := by
  have same : ({ P with tx := none } : Port) = P := by rw [← h]
  unfold beginNext nextByte
  rw [h, same]
  cases P.txq <;> rfl

/-- A byte in transmission keeps its value and format (log entry 27). -/
theorem beginNext_busy {P : Port} {t : TxNow} (h : P.tx = some t) : beginNext P = P := by
  unfold beginNext
  rw [h]

theorem beginNext_eq (P : Port) : beginNext P = if P.tx = none then nextByte P else P := by
  split
  case isTrue h => exact beginNext_idle h
  case isFalse h =>
    obtain ⟨t, ht⟩ := Option.ne_none_iff_exists'.mp h
    exact beginNext_busy ht

/-- The end of a byte in transmission: the next one begins, and the reply timer starts at a marked byte awaited (R76, R83). -/
theorem byteSent_eq {P : Port} {t : TxNow} (h : P.tx = some t) (now : Nat) :
    byteSent now P =
      if t.last = true ∧ P.expect = .awaitingSend then
        { nextByte P with expect := .timing, replyTimer := some (now + 10 * P.cfg.replyTimeout) }
      else nextByte P := by
  have next : beginNext { P with tx := none } = nextByte P := by
    rw [beginNext_idle rfl]
    unfold nextByte
    cases P.txq <;> rfl
  unfold byteSent
  rw [h]
  dsimp only
  rw [next]
  refine if_congr ?_ rfl rfl
  rw [Bool.and_eq_true, decide_eq_true_eq]

theorem txRestsHigh_iff (P : Port) : txRestsHigh P = true ↔ P.tx = none ∧ P.txq = [] := by
  simp [txRestsHigh]

/-! ### Replies (R84 to R88) -/

theorem deliverReply_outstanding {l : LaneId} {p : PortId} {s : State}
    (h : (s.port l p).expect = .awaitingSend ∨ (s.port l p).expect = .timing) (code : List Byte) (damaged : Bool) :
    deliverReply l p code damaged s = takeReply l p code damaged s := by
  unfold deliverReply
  obtain h | h := h <;> rw [h]

theorem deliverReply_timedOut {l : LaneId} {p : PortId} {s : State} (h : (s.port l p).expect = .timedOut) (code : List Byte)
    (damaged : Bool) :
    deliverReply l p code damaged s =
      (offerFault l .replyLate (.port p) (code.length - 1) s).modPort l p fun P => { P with expect := .idle } := by
  rw [deliverReply, h]

theorem deliverReply_idle {l : LaneId} {p : PortId} {s : State} (h : (s.port l p).expect = .idle) (code : List Byte)
    (damaged : Bool) :
    deliverReply l p code damaged s = offerFault l .replyUnexpected (.port p) (code.length - 1) s := by
  rw [deliverReply, h]

/-- What the expectation logic leaves of a port: its receiver with its buffer, and its slot (R84 to R88). -/
def receiverView (P : Port) : PortRx × List Byte × Option SlotRecord := (P.rx, P.buf, P.slot)

theorem receiverView_modPort {f : Port → Port} (hf : ∀ P, receiverView (f P) = receiverView P) (l : LaneId) (p q : PortId)
    (s : State) : receiverView ((s.modPort l p f).port l q) = receiverView (s.port l q) := by
  by_cases e : q = p
  · subst e; rw [port_modPort_same, hf]
  · rw [port_modPort_other _ _ e]

@[simp] theorem port_offer (l : LaneId) (b : RecBody) (f : RecFlags) (p : PortId) (s : State) :
    (offer l b f s).port l p = s.port l p := by
  cases p <;> simp [State.port]

@[simp] theorem port_raise (l : LaneId) (f : Byte) (p : PortId) (s : State) : (raise l f s).port l p = s.port l p := by
  cases p <;> simp [State.port, raise]

theorem receiverView_deliverReply (l : LaneId) (p q : PortId) (code : List Byte) (damaged : Bool) (s : State) :
    receiverView ((deliverReply l p code damaged s).port l q) = receiverView (s.port l q) := by
  have taken : receiverView ((takeReply l p code damaged s).port l q) = receiverView (s.port l q) := by
    exact (receiverView_modPort (f := endExpectation) (fun _ => rfl) ..).trans (by rw [port_raise, port_offer])
  cases h : (s.port l p).expect with
  | awaitingSend => rw [deliverReply_outstanding (.inl h), taken]
  | timing => rw [deliverReply_outstanding (.inr h), taken]
  | timedOut =>
    rw [deliverReply_timedOut h]
    exact (receiverView_modPort (f := fun P => { P with expect := .idle }) (fun _ => rfl) ..).trans (by rw [port_offerFault])
  | idle => rw [deliverReply_idle h, port_offerFault]

theorem slot_modPort {f : Port → Port} (hf : ∀ P, (f P).slot = P.slot) (l : LaneId) (p q : PortId) (s : State) :
    ((s.modPort l p f).port l q).slot = (s.port l q).slot := by
  by_cases e : q = p
  · subst e; rw [port_modPort_same, hf]
  · rw [port_modPort_other _ _ e]

theorem receiverView_settle (l : LaneId) (q : PortId) (s : State) :
    receiverView ((settle s).port l q) = receiverView (s.port l q) := by
  cases q <;> simp [State.port, receiverView]

/-- A reply-marked record as it completes: it goes to the expectation logic, and both slots are left (R69). -/
theorem exec_completes_reply {l : LaneId} {p : PortId} {s : State} (hl : Listens s l p) (hrx : (s.port l p).rx = .assembly)
    (hterm : DataBits (s.port l p).cfg (s.port l p).cfg.terminator) (h : ReplyMarked (s.port l p)) :
    exec (.scannerCharacterReceived l p { value := (s.port l p).cfg.terminator, quality := .good }) s =
      .next (settle (deliverReply l p (s.port l p).buf (s.port l p).damaged (s.modPort l p completedPort))) := by
  have hbuf : (s.port l p).buf ≠ [] := by
    intro none
    obtain ⟨-, -, mark⟩ := h
    simp [none] at mark
  rw [exec_completes hl hrx hterm hbuf, complete_replyMarked (by simpa using h), State.modPort_modPort, port_modPort_same]
  rfl

/-! ### The timers of a port (R66, R86) -/

theorem timerDue_some {now due : Nat} (h : due ≤ now) : timerDue now (some due) = true := decide_eq_true h

theorem gapDue_of_reached {l : LaneId} {p : PortId} {s : State} (hrun : (s.lane l).run = .running)
    (hen : (s.port l p).cfg.enabled = true) (hrx : (s.port l p).rx = .assembly ∨ (s.port l p).rx = .skip) {due : Nat}
    (hgap : (s.port l p).gap = some due) (h : due ≤ s.elapsed) : gapDue s l p = true := by
  have hears : listening (s.lane l) p = true := Bool.and_eq_true_iff.mpr ⟨decide_eq_true hrun, hen⟩
  rw [gapDue, hgap, timerDue_some h, hears]
  obtain hrx | hrx := hrx <;> rw [hrx] <;> rfl

theorem gapExpires_assembly {l : LaneId} {p : PortId} {s : State} (h : gapDue s l p = true) (hrx : (s.port l p).rx = .assembly) :
    gapExpires l p s = (offerFault l .recordFragment (.port p) (s.port l p).buf.length s).modPort l p toHunt := by
  rw [gapExpires, if_pos h, if_pos hrx]

theorem gapExpires_skip {l : LaneId} {p : PortId} {s : State} (h : gapDue s l p = true) (hrx : (s.port l p).rx = .skip) :
    gapExpires l p s = s.modPort l p toHunt := by
  rw [gapExpires, if_pos h, if_neg (by simp [hrx])]

/-- Settles O31. -/
theorem repliesAndPortTimers : Obligations.RepliesAndPortTimers := by
  refine ⟨fun l p code damaged s => ⟨fun h => ?_, fun h => deliverReply_timedOut h .., fun h => deliverReply_idle h ..⟩,
    ⟨fun l p s hrun hen hdrop hterm hrx marked => ?_, fun P damaged ⟨_, sound, _⟩ => ?_⟩, txRestsHigh_iff,
    fun l p s => ⟨fun due hrun hen hgap reached => ⟨fun hrx => ?_, fun hrx => ?_⟩, rfl,
      fun sent htx => ⟨fun last awaited => ?_, fun plain => ?_⟩, fun due timing htimer reached => ?_⟩⟩
  · rw [deliverReply_outstanding h, takeReply, show decide (7 < code.length) = decide (6 < (code.drop 1).length) by
      rw [List.length_drop]; exact decide_eq_decide.mpr (by omega)]
    rfl
  · dsimp only
    have views : ∀ q, receiverView ((settle (deliverReply l p (s.port l p).buf (s.port l p).damaged
        (s.modPort l p completedPort))).port l q) = receiverView ((s.modPort l p completedPort).port l q) := fun q => by
      rw [receiverView_settle, receiverView_deliverReply]
    simp only [receiverView, Prod.mk.injEq] at views
    obtain ⟨hunts, empty, -⟩ := views p
    rw [port_modPort_same] at hunts empty
    refine ⟨exec_completes_reply ⟨hrun, hen, hdrop⟩ hrx hterm marked, hunts, empty, fun q => ?_⟩
    obtain ⟨-, -, kept⟩ := views q
    rw [kept, slot_modPort (f := completedPort) fun _ => rfl]
  · exact absurd (damaged.symm.trans sound) (by decide)
  · show done (gapExpires l p s) = _
    rw [gapExpires_assembly (gapDue_of_reached hrun hen (.inl hrx) hgap reached) hrx]
    rfl
  · show done (gapExpires l p s) = _
    rw [gapExpires_skip (gapDue_of_reached hrun hen (.inr hrx) hgap reached) hrx]
    rfl
  · refine congrArg done (State.modPort_congr ?_)
    rw [byteSent_eq htx, if_pos ⟨last, awaited⟩]
  · refine congrArg done (State.modPort_congr ?_)
    rw [byteSent_eq htx, if_neg]
    rintro ⟨last, awaited⟩
    exact plain.elim (fun h => absurd (last.symm.trans h) (by decide)) fun h => h awaited
  · have expires : replyDue s l p = true := by rw [replyDue, timing, htimer, timerDue_some reached]; rfl
    show done (replyExpires l p s) = _
    rw [replyExpires, if_pos expires]
    rfl

end Sys2Proof.Machine
end

section
/-! PROOFS. O30 and O35: the head of a lane, the attempts on its waiting records, and the record that a terminator completes. -/

namespace Sys2Proof.Machine

open Sys2Proof.Claims

/-! ### The head (R95; log entry 26) -/

theorem slots_eq_none_iff (L : Lane) (p : PortId) :
    (L.portA.slot = none ∧ L.portB.slot = none) ↔ (L.port p).slot = none ∧ (L.port (otherPort p)).slot = none := by
  cases p
  · exact Iff.rfl
  · exact and_comm

theorem headPort_none {L : Lane} (ha : L.portA.slot = none) (hb : L.portB.slot = none) : headPort L = none := by
  rw [headPort, ha, hb]

theorem headPort_alone {L : Lane} {p : PortId} {r : SlotRecord} (h : (L.port p).slot = some r)
    (alone : (L.port (otherPort p)).slot = none) : headPort L = some p := by
  cases p with
  | A =>
    have ha : L.portA.slot = some r := h
    have hb : L.portB.slot = none := alone
    rw [headPort, ha, hb]
  | B =>
    have hb : L.portB.slot = some r := h
    have ha : L.portA.slot = none := alone
    rw [headPort, ha, hb]

/-- With both slots occupied the head is the record that comes before the other (R95). -/
theorem headPort_iff {L : Lane} {p : PortId} {r w : SlotRecord} (h : (L.port p).slot = some r)
    (other : (L.port (otherPort p)).slot = some w) : headPort L = some p ↔ Before p r w := by
  have same : r.time = w.time ↔ r.time.toNat = w.time.toNat := BitVec.toNat_inj.symm
  cases p with
  | A =>
    have ha : L.portA.slot = some r := h
    have hb : L.portB.slot = some w := other
    rw [headPort, ha, hb]
    dsimp only
    split <;> simp [Before, same] <;> omega
  | B =>
    have hb : L.portB.slot = some r := h
    have ha : L.portA.slot = some w := other
    rw [headPort, ha, hb]
    dsimp only
    split <;> simp [Before] <;> omega

theorem headOf_of_headPort {L : Lane} {p : PortId} {r : SlotRecord} (head : headPort L = some p) (h : (L.port p).slot = some r) :
    headOf L = some (p, r) := by
  simp [headOf, head, h]

theorem headOf_none {L : Lane} (h : headPort L = none) : headOf L = none := by
  rw [headOf, h]
  rfl

/-! ### Attempts (R96, R97) -/

/-- An attempt leaves its lane in the lane state it had. -/
theorem attemptRecord_run (l : LaneId) (p : PortId) (r : SlotRecord) (late : Bool) (s : State) :
    ((attemptRecord l p r late s).1.lane l).run = (s.lane l).run := by
  obtain ⟨footed, -⟩ := (keptByWork_workedFrom l s).attemptRecord frameView_footing.passView p r late (.refl l s)
  exact congrArg Prod.fst footed

theorem attempt_head {l : LaneId} {s : State} (hrun : (s.lane l).run = .running) {p : PortId} {r : SlotRecord}
    (head : headPort (s.lane l) = some p) (h : (s.port l p).slot = some r) (late : Bool) :
    attempt l late s = attemptRecord l p r late s := by
  rw [attempt, if_neg (by simp [hrun]), headOf_of_headPort head h]

/-- A lane with nothing waiting makes no attempt. -/
theorem attempt_none {l : LaneId} {s : State} (h : headPort (s.lane l) = none) (late : Bool) : attempt l late s = (s, false) := by
  rw [attempt, headOf_none h]
  exact ite_self _

theorem attemptChain_none {l : LaneId} {s : State} (h : headPort (s.lane l) = none) (late : Bool) :
    attemptChain l late s = s := by
  rw [attemptChain, attempt_none h]
  rfl

theorem otherPort_ne (p : PortId) : otherPort p ≠ p := by
  cases p <;> decide

theorem otherPort_otherPort (p : PortId) : otherPort (otherPort p) = p := by
  cases p <;> rfl

/-- One record waiting is attempted alone: once it has finished there is no other (R97). -/
theorem attemptChain_alone {l : LaneId} {p : PortId} {r : SlotRecord} {s : State} (hrun : (s.lane l).run = .running)
    (h : (s.port l p).slot = some r) (alone : (s.port l (otherPort p)).slot = none) (late : Bool) :
    attemptChain l late s = (attemptRecord l p r late s).1 := by
  rw [attemptChain, attempt_head hrun (headPort_alone h alone) h]
  split
  case isTrue finished =>
    have others : ((attemptRecord l p r late s).1.port l (otherPort p)).slot = none := by
      rw [attemptRecord_other l (otherPort_ne p), alone]
    obtain ⟨ha, hb⟩ := (slots_eq_none_iff _ p).mpr ⟨attemptRecord_slot finished, others⟩
    rw [attempt_none (headPort_none ha hb)]
  case isFalse => rfl

/-- Of two records waiting the head is attempted first, and the other, late, once the head has finished (R97). -/
theorem attemptChain_both {l : LaneId} {p : PortId} {r w : SlotRecord} {s : State} (hrun : (s.lane l).run = .running)
    (h : (s.port l p).slot = some r) (other : (s.port l (otherPort p)).slot = some w) (first : Before p r w) (late : Bool) :
    attemptChain l late s = attemptBoth l p r w late s := by
  rw [attemptChain, attempt_head hrun ((headPort_iff h other).mpr first) h, attemptBoth]
  split
  case isTrue finished =>
    have waits : ((attemptRecord l p r late s).1.port l (otherPort p)).slot = some w := by
      rw [attemptRecord_other l (otherPort_ne p), other]
    have emptied : ((attemptRecord l p r late s).1.port l (otherPort (otherPort p))).slot = none := by
      rw [otherPort_otherPort]; exact attemptRecord_slot finished
    rw [attempt_head ((attemptRecord_run ..).trans hrun) (headPort_alone waits emptied) waits]
  case isFalse => rfl

/-! ### Growth reports (R132; log entry 21) -/

/-- A lane section whose growth report has been taken. -/
def growthTaken (L : Lane) : Lane := { L with growth := false }

@[simp] theorem port_growthTaken (L : Lane) (p : PortId) : (growthTaken L).port p = L.port p := by
  cases p <;> rfl

theorem exec_growthReport {l : LaneId} {s : State} (h : (s.lane l).growth = true) :
    exec (.growthReport l) s = .next (settle (attemptChain l true (s.modLane l growthTaken))) :=
  congrArg done (if_pos h)

theorem port_taken (l : LaneId) (p : PortId) (s : State) : (s.modLane l growthTaken).port l p = s.port l p := by
  rw [State.port, State.lane_modLane_same, port_growthTaken]
  rfl

theorem run_taken (l : LaneId) (s : State) : ((s.modLane l growthTaken).lane l).run = (s.lane l).run := by
  rw [State.lane_modLane_same]
  rfl

/-! ### A record that fills an empty slot (R70) -/

theorem enterSlot_empty {l : LaneId} {p : PortId} {s : State} (h : (s.port l p).slot = none) (code : List Byte) (damaged : Bool) :
    enterSlot l p code damaged s =
      let held := s.modPort l p fun P => { P with slot := some { code := code, damaged := damaged, time := s.clock } }
      if headPort (held.lane l) = some p then attemptChain l false held else held := by
  rw [enterSlot, h]

/-- The record that a port has collected, completed now (R69, R70). -/
def recordNow (s : State) (l : LaneId) (p : PortId) : SlotRecord :=
  { code := (s.port l p).buf, damaged := (s.port l p).damaged, time := s.clock }

/-- The part with the record that port p has collected in its slot. -/
def slotFilled (s : State) (l : LaneId) (p : PortId) : State :=
  s.modPort l p fun P => { completedPort P with slot := some (recordNow s l p) }

theorem slot_filled (s : State) (l : LaneId) (p : PortId) : ((slotFilled s l p).port l p).slot = some (recordNow s l p) := by
  rw [slotFilled, port_modPort_same]

theorem slot_filled_other (s : State) (l : LaneId) (p : PortId) :
    ((slotFilled s l p).port l (otherPort p)).slot = (s.port l (otherPort p)).slot := by
  rw [slotFilled, port_modPort_other _ _ (otherPort_ne p)]

theorem run_filled (s : State) (l : LaneId) (p : PortId) : ((slotFilled s l p).lane l).run = (s.lane l).run :=
  run_modPort ..

section Completed

variable {l : LaneId} {p : PortId} {s : State} (hl : Listens s l p) (hrx : (s.port l p).rx = .assembly)
  (hterm : DataBits (s.port l p).cfg (s.port l p).cfg.terminator) (hbuf : (s.port l p).buf ≠ [])
  (hscan : ¬ReplyMarked (s.port l p)) (hslot : (s.port l p).slot = none)

include hl hrx hterm hbuf hscan hslot

/-- A record that completes enters its empty slot, and is attempted at once if it is the head (R70, R96). -/
theorem exec_fills_slot :
    exec (.scannerCharacterReceived l p { value := (s.port l p).cfg.terminator, quality := .good }) s =
      .next (settle
        (if headPort ((slotFilled s l p).lane l) = some p then attemptChain l false (slotFilled s l p) else slotFilled s l p)) := by
  rw [exec_completes_scan hl hrx hterm hbuf hscan, enterSlot_empty (by rw [port_modPort_same]; exact hslot),
    State.modPort_modPort]
  rfl

theorem exec_fills_slot_alone (alone : (s.port l (otherPort p)).slot = none) :
    exec (.scannerCharacterReceived l p { value := (s.port l p).cfg.terminator, quality := .good }) s =
      .next (settle (attemptRecord l p (recordNow s l p) false (slotFilled s l p)).1) := by
  have alone' := (slot_filled_other s l p).trans alone
  rw [exec_fills_slot hl hrx hterm hbuf hscan hslot, if_pos (headPort_alone (slot_filled s l p) alone'),
    attemptChain_alone ((run_filled s l p).trans hl.run) (slot_filled s l p) alone']

theorem exec_fills_slot_behind {w : SlotRecord} (other : (s.port l (otherPort p)).slot = some w)
    (behind : ¬Before p (recordNow s l p) w) :
    exec (.scannerCharacterReceived l p { value := (s.port l p).cfg.terminator, quality := .good }) s =
      .next (settle (slotFilled s l p)) := by
  have other' := (slot_filled_other s l p).trans other
  rw [exec_fills_slot hl hrx hterm hbuf hscan hslot, if_neg fun head => behind ((headPort_iff (slot_filled s l p) other').mp head)]

theorem exec_fills_slot_before {w : SlotRecord} (other : (s.port l (otherPort p)).slot = some w)
    (first : Before p (recordNow s l p) w) :
    exec (.scannerCharacterReceived l p { value := (s.port l p).cfg.terminator, quality := .good }) s =
      .next (settle (attemptBoth l p (recordNow s l p) w false (slotFilled s l p))) := by
  have other' := (slot_filled_other s l p).trans other
  rw [exec_fills_slot hl hrx hterm hbuf hscan hslot, if_pos ((headPort_iff (slot_filled s l p) other').mpr first),
    attemptChain_both ((run_filled s l p).trans hl.run) (slot_filled s l p) other' first]

/-- A head whose attempt does nothing stays in its slot, and so does the record behind it (R97, R126). -/
theorem exec_fills_slot_waits (first : ∀ w, (s.port l (otherPort p)).slot = some w → Before p (recordNow s l p) w)
    (waits : attemptRecord l p (recordNow s l p) false (slotFilled s l p) = (slotFilled s l p, false)) :
    exec (.scannerCharacterReceived l p { value := (s.port l p).cfg.terminator, quality := .good }) s =
      .next (settle (slotFilled s l p)) := by
  cases other : (s.port l (otherPort p)).slot with
  | none => rw [exec_fills_slot_alone hl hrx hterm hbuf hscan hslot other, waits]
  | some w =>
    rw [exec_fills_slot_before hl hrx hterm hbuf hscan hslot other (first w other), attemptBoth, waits]
    rfl

end Completed

/-! ### A record accepted (R105) -/

/-- The SCAN record of an accepted record as it is stored, with the pending losses it carries (R105, R122). -/
def scanStored (L : Lane) (p : PortId) (r : SlotRecord) (index : Nat) (late : Bool) : Rec :=
  { body := .scan p index r.code, flags := { delayed := late }, lostBefore := L.lost, stamp := r.time }

/-- What the acceptance of a record leaves in its lane: the SCAN record in the queue, the count, the code, and an empty slot. -/
structure Accepted (p : PortId) (r : SlotRecord) (index : Nat) (late : Bool) (L L' : Lane) : Prop where
  queue : L'.queue = L.queue ++ [scanStored L p r index late]
  lost : L'.lost = 0
  recent : L'.recent = recentAccept p r L.recent
  counters : L'.counters = L.counters.set 4 (L.counters[4] + 1)
  slot : (L'.port p).slot = none
  rx : (L'.port p).rx = (L.port p).rx
  buf : (L'.port p).buf = (L.port p).buf

theorem receiverView_toned (tone : OptByte) (P : Port) : receiverView (toned tone P) = receiverView P := by
  unfold toned
  split
  · rw [beginNext_eq]
    split
    · unfold nextByte
      split <;> rfl
    · rfl
  · rfl

theorem Accepted.settle {p : PortId} {r : SlotRecord} {index : Nat} {late : Bool} {L L' : Lane}
    (h : Accepted p r index late L L') : Accepted p r index late L (settleLane L') := by
  obtain ⟨queue, lost, recent, counters, slot, rx, buf⟩ := h
  refine ⟨queue, lost, recent, counters, ?_, ?_, ?_⟩ <;> cases p <;> assumption

theorem accepted_acceptLane (p : PortId) (r : SlotRecord) (index : Nat) (late : Bool) (before after : Nat) (L : Lane) :
    Accepted p r index late L
      (acceptLane p r (recomputeLane before after
        (joinQueue { body := .scan p index r.code, flags := { delayed := late }, stamp := r.time } L))) := by
  have toned := receiverView_toned (L.port p).cfg.goodTone (L.port p)
  simp only [receiverView, Prod.mk.injEq] at toned
  obtain ⟨rx, buf, -⟩ := toned
  rw [acceptLane_eq]
  refine ⟨?_, ?_, ?_, ?_, ?_, ?_, ?_⟩
  · simp [joinQueue, scanStored]
  · simp
  · simp
  · simp
  · rw [Lane.port_modPort_same]
  · rw [Lane.port_modPort_same]; cases p <;> simpa using rx
  · rw [Lane.port_modPort_same]; cases p <;> simpa using buf

theorem accepted_attempt {l : LaneId} {p : PortId} {r : SlotRecord} {index : Nat} {s : State}
    (accepts : screen s (s.lane l) p r = .accept index) (fit : recordSlots (.scan p index r.code) ≤ headroom s l) (late : Bool) :
    Accepted p r index late (s.lane l) ((attemptRecord l p r late s).1.lane l) := by
  rw [attemptRecord_of_accept late accepts, if_pos fit, State.lane_modLane_same, lane_admit, if_pos rfl]
  exact accepted_acceptLane ..

theorem port_settle (l : LaneId) (p : PortId) (s : State) : (settle s).port l p = (settleLane (s.lane l)).port p :=
  congrArg (fun L => L.port p) (lane_settle s l)

/-- A change of a lane section that keeps its configuration and its queue keeps every headroom. -/
theorem headroom_modLane {l : LaneId} {f : Lane → Lane} {s : State} (hcfg : (f (s.lane l)).cfg = (s.lane l).cfg)
    (hqueue : (f (s.lane l)).queue = (s.lane l).queue) (k : LaneId) : headroom (s.modLane l f) k = headroom s k := by
  refine headroom_congr (fun j => ?_) k
  by_cases e : j = l
  · subst e; rw [State.lane_modLane_same]; exact ⟨hcfg, hqueue⟩
  · rw [State.lane_modLane_other _ _ e]; exact ⟨rfl, rfl⟩

/-- A code that no entry of a recent-code table holds joins its front, and the back one of nine leaves (R105, R108). -/
theorem recentAccept_new {table : List RecentEntry} {r : SlotRecord} (h : ∀ e ∈ table, e.code ≠ r.code) (p : PortId) :
    recentAccept p r table = ({ code := r.code, port := p, time := r.time } :: table).take 8 := by
  have all : table.filter (fun e => decide (e.code ≠ r.code)) = table := by simpa using h
  rw [recentAccept, all]
  rfl

/-- An unlisted code that is new to its lane is accepted with index 15, where strict is off (R101, R104). -/
theorem screen_of_new {s : State} {L : Lane} {r : SlotRecord} (allowed : scanAllowed L = true) (sound : r.damaged = false)
    (unlisted : symbologyIndex s.symbology r.code = none) (lax : s.strict = false) (h : ∀ e ∈ L.recent, e.code ≠ r.code)
    (p : PortId) : screen s L p r = .accept 15 := by
  have fresh : recentFind L.recent r.code = none := by simpa [recentFind] using h
  rw [screen_of_unlisted allowed sound p unlisted, lax, if_neg Bool.false_ne_true, judgeDuplicate, fresh]

/-- Settles O30. -/
theorem scanAcceptedAtCompletion : Obligations.ScanAcceptedAtCompletion := by
  intro l p s hrun hen hdrop hterm hrx hbuf sound hscan ha hb allowed unlisted lax new fit
  have hl : Listens s l p := ⟨hrun, hen, hdrop⟩
  obtain ⟨hslot, alone⟩ := (slots_eq_none_iff (s.lane l) p).mp ⟨ha, hb⟩
  have lane : (slotFilled s l p).lane l = (s.lane l).modPort p fun P => { completedPort P with slot := some (recordNow s l p) } :=
    State.lane_modLane_same ..
  have accepts : screen (slotFilled s l p) ((slotFilled s l p).lane l) p (recordNow s l p) = .accept 15 := by
    refine screen_of_new ?_ sound unlisted lax ?_ p
    · simpa [lane, scanAllowed] using allowed
    · simpa [lane] using (show ∀ e ∈ (s.lane l).recent, e.code ≠ (recordNow s l p).code from new)
  have room : headroom (slotFilled s l p) l = headroom s l := headroom_modLane (by simp) (by simp) l
  have done := (accepted_attempt accepts (room.symm ▸ fit) false).settle
  rw [lane] at done
  refine ⟨_, exec_fills_slot_alone hl hrx hterm hbuf hscan hslot alone, ?_⟩
  rw [port_settle, lane_settle]
  refine ⟨done.queue.trans ?_, done.lost, done.recent.trans ?_, done.counters.trans ?_, done.slot, done.rx.trans ?_, done.buf.trans ?_⟩
  · simp only [Lane.modPort_queue, scanStored, Lane.modPort_lost]; rfl
  · rw [Lane.modPort_recent]; exact recentAccept_new (r := recordNow s l p) new p
  · simp only [Lane.modPort_counters]
  · rw [Lane.port_modPort_same]; rfl
  · rw [Lane.port_modPort_same]; rfl

/-- Settles O35. -/
theorem growthAttemptsWaitingRecord : Obligations.GrowthAttemptsWaitingRecord := by
  refine ⟨fun l s growth => ⟨fun ha hb => ?_, fun p r index h alone accepts fit hrun => ?_⟩,
    fun l late s => ⟨fun h => ?_, fun p r hrun h =>
      ⟨fun alone => attemptChain_alone hrun h alone late, fun w other first => attemptChain_both hrun h other first late⟩⟩,
    fun L => ⟨headPort_none, fun p r h => ⟨headPort_alone h, fun w other => headPort_iff h other⟩⟩,
    fun l p r s growth hrun h => ⟨fun alone => ?_, fun w other first => ?_⟩,
    fun l p s hrun hen hdrop hterm hrx hbuf hscan hslot => ?_⟩
  · rw [exec_growthReport growth, attemptChain_none]
    · rfl
    · rw [State.lane_modLane_same]; exact headPort_none ha hb
  · have waits := (congrArg Port.slot (port_taken l p s)).trans h
    have alone' := (congrArg Port.slot (port_taken l _ s)).trans (alone _ (otherPort_ne p))
    have done := (accepted_attempt (s := s.modLane l growthTaken) (l := l) (r := r) (index := index)
      (by rw [State.lane_modLane_same]; exact accepts) (by rw [headroom_modLane rfl rfl]; exact fit) true).settle
    rw [State.lane_modLane_same] at done
    refine ⟨_, exec_growthReport growth, ?_⟩
    rw [attemptChain_alone ((run_taken l s).trans hrun) waits alone', lane_settle, port_settle]
    refine ⟨done.queue, done.lost, done.slot, done.counters, ?_⟩
    rw [done.recent]
    rfl
  · obtain ready | ⟨ha, hb⟩ := h
    · exact attemptChain_of_not_running (by simp [ready]) late
    · exact attemptChain_none (headPort_none ha hb) late
  · rw [exec_growthReport growth, attemptChain_alone ((run_taken l s).trans hrun) ((congrArg Port.slot (port_taken l p s)).trans h)
      ((congrArg Port.slot (port_taken l _ s)).trans alone)]
    rfl
  · rw [exec_growthReport growth, attemptChain_both ((run_taken l s).trans hrun) ((congrArg Port.slot (port_taken l p s)).trans h)
      ((congrArg Port.slot (port_taken l _ s)).trans other) first]
    rfl
  · have hl : Listens s l p := ⟨hrun, hen, hdrop⟩
    refine ⟨exec_fills_slot_alone hl hrx hterm hbuf hscan hslot, fun w other =>
      ⟨exec_fills_slot_behind hl hrx hterm hbuf hscan hslot other, exec_fills_slot_before hl hrx hterm hbuf hscan hslot other⟩,
      fun first => ⟨fun index accepts full => ?_, fun reason index rejects full => ?_⟩⟩
    · refine exec_fills_slot_waits hl hrx hterm hbuf hscan hslot first ?_
      exact (attemptRecord_of_accept false accepts).trans (if_neg (Nat.not_le.mpr full))
    · refine exec_fills_slot_waits hl hrx hterm hbuf hscan hslot first ?_
      exact (attemptRecord_of_reject false rejects).trans (if_neg (Nat.not_le.mpr full))

end Sys2Proof.Machine
end

section
/-! PROOFS. O26: SCANNER_SEND. A body is judged by its count, its length and its fields; then by its lane and port (R80). -/

namespace Sys2Proof.Machine

open Sys2Proof.Claims

/-! ### The bytes of a command (R81) -/

/-- The bytes of a command as they join the queue: the last one carries the expect flag. -/
theorem commandBytes_eq {bytes : List Byte} (h : bytes ≠ []) (flag : Bool) :
    commandBytes bytes flag =
      bytes.dropLast.map (fun b => { value := b }) ++ [{ value := bytes.getLastD 0, last := flag }] := by
  induction bytes with
  | nil => exact absurd rfl h
  | cons b rest ih =>
    cases rest with
    | nil => rfl
    | cons b' rest' =>
      show { value := b } :: commandBytes (b' :: rest') flag = _
      rw [ih (List.cons_ne_nil _ _)]
      rfl

/-- An accepted SCANNER_SEND at its port (R81). -/
theorem sendPort_eq {bytes : List Byte} (h : bytes ≠ []) (flag : Bool) (P : Port) :
    sendPort bytes flag P =
      beginNext { P with
        txq := P.txq ++ bytes.dropLast.map (fun b => { value := b }) ++ [{ value := bytes.getLastD 0, last := flag }]
        expect := if flag then .awaitingSend else if P.expect = .timedOut then .idle else P.expect } := by
  rw [sendPort, commandBytes_eq h, List.append_assoc]

/-! ### The judgements of the lane and the port (R80, 4 to 6) -/

section

variable {L : Lane} {p : PortId} {n : Nat} {flag : Bool}

theorem sendRefusal_state (h : L.run = .ready ∨ (L.port p).cfg.enabled = false) : sendRefusal L p n flag = some .state := by
  refine if_pos (h.imp_left fun ready => ?_)
  rw [ready]
  decide

variable (hrun : L.run = .running) (hen : (L.port p).cfg.enabled = true)

include hrun hen

theorem sendRefusal_runs :
    sendRefusal L p n flag =
      if flag = true ∧ (L.port p).cfg.replyMark.present = false then some .badValue
      else if txFree (L.port p) < n ∨ flag = true ∧ outstanding (L.port p).expect = true then some .busy
      else none :=
  if_neg (by simp [hrun, hen])

theorem sendRefusal_unmarked (hflag : flag = true) (h : (L.port p).cfg.replyMark.present = false) :
    sendRefusal L p n flag = some .badValue :=
  (sendRefusal_runs hrun hen).trans (if_pos ⟨hflag, h⟩)

theorem sendRefusal_busy (hn : 1 ≤ n) (hmark : flag = false ∨ (L.port p).cfg.replyMark.present = true)
    (h : 8 < (L.port p).txq.length + n ∨ flag = true ∧ ((L.port p).expect = .awaitingSend ∨ (L.port p).expect = .timing)) :
    sendRefusal L p n flag = some .busy := by
  refine (sendRefusal_runs hrun hen).trans ((if_neg ?_).trans (if_pos ?_))
  · rintro ⟨on, none⟩
    exact hmark.elim (fun off => absurd (on.symm.trans off) (by decide)) fun some => absurd (none.symm.trans some) (by decide)
  · refine h.imp (fun full => ?_) fun waits => ⟨waits.1, by simpa [outstanding] using waits.2⟩
    simp only [txFree, Config.txQueueBytes]
    omega

theorem sendRefusal_none (hroom : (L.port p).txq.length + n ≤ 8)
    (h : flag = true →
      (L.port p).cfg.replyMark.present = true ∧ (L.port p).expect ≠ .awaitingSend ∧ (L.port p).expect ≠ .timing) :
    sendRefusal L p n flag = none := by
  refine (sendRefusal_runs hrun hen).trans ((if_neg ?_).trans (if_neg ?_))
  · rintro ⟨on, none⟩
    exact absurd ((h on).1.symm.trans none) (by decide)
  · rintro (full | ⟨on, waits⟩)
    · simp only [txFree, Config.txQueueBytes] at full
      omega
    · obtain ⟨-, awaiting, timing⟩ := h on
      simp [outstanding, awaiting, timing] at waits

end

/-! ### SCANNER_SEND, judged -/

theorem portOf_port {body : List Byte} {i : Nat} {p : PortId} (h : u8 body i = if p = .A then 0 else 1) :
    portOf body i = some p := by
  cases p <;> simp [portOf, h]

theorem portOf_undefined {body : List Byte} {i : Nat} (h : 1 < u8 body i) : portOf body i = none := by
  unfold portOf
  rw [if_neg (by omega), if_neg (by omega)]

/-- A part that serves a SCANNER_SEND answers as its block does. -/
theorem exec_scannerSend {s : State} (hs : Serves s) (body : List Byte) :
    exec (.scannerSend body) s =
      .next (replied 0x29 body (serveScannerSend body (received s)).2 (serveScannerSend body (received s)).1) :=
  congrArg Host.Outcome.next (frameCompletes_serves hs serveScannerSend (by decide) body)

theorem scannerSend_refusedAs {s : State} (hs : Serves s) {body : List Byte} {r : Result}
    (h : serveScannerSend body (received s) = refuse r (received s)) : RefusedAs (.scannerSend body) (resultByte r) s :=
  ⟨0x29, body, rfl, by rw [exec_scannerSend hs, h]; rfl⟩

theorem serveScannerSend_badLane {b : Byte} (h : 4 ≤ b.toNat) (rest : List Byte) (s : State) :
    serveScannerSend (b :: rest) s = refuse .badLane s := by
  have bad : ¬b.toNat < 4 := Nat.not_lt.mpr h
  by_cases count : u8 (b :: rest) 3 = 0 ∨ 6 < u8 (b :: rest) 3
  · exact (if_pos count).trans (if_neg bad)
  · exact (if_neg count).trans (dif_neg bad)

/-- A count of 0 or above 6, or another length than the count gives, is BAD_LENGTH (R80). -/
theorem serveScannerSend_badLength {l : LaneId} {body : List Byte} (hlane : body.head? = some (laneByte l))
    (h : u8 body 3 = 0 ∨ 6 < u8 body 3 ∨ body.length ≠ 4 + u8 body 3) (s : State) :
    serveScannerSend body s = refuse .badLength s := by
  obtain ⟨rest, rfl⟩ := List.head?_eq_some_iff.mp hlane
  have lane : (laneByte l).toNat < 4 := by rw [laneByte, toNat_byteOf_lane]; exact l.isLt
  by_cases count : u8 (laneByte l :: rest) 3 = 0 ∨ 6 < u8 (laneByte l :: rest) 3
  · exact (if_pos count).trans (if_pos lane)
  · exact (if_neg count).trans ((dif_pos lane).trans (if_neg ((or_assoc.mpr h).resolve_left count)))

section

variable {l : LaneId} {body : List Byte} (hlane : body.head? = some (laneByte l)) (hn : 1 ≤ u8 body 3) (hn' : u8 body 3 ≤ 6)
  (hlen : body.length = 4 + u8 body 3)

include hlane hn hn' hlen

/-- An undefined port or expect flag (R80). -/
theorem serveScannerSend_badValue (h : 1 < u8 body 1 ∨ 1 < u8 body 2) (s : State) :
    serveScannerSend body s = refuse .badValue s := by
  obtain ⟨rest, rfl⟩ : ∃ rest, body = byteOf l.val :: rest := List.head?_eq_some_iff.mp hlane
  refine (if_neg (by omega)).trans ((withLane_lane _ l hlen).trans ?_)
  cases hport : portOf (byteOf l.val :: rest) 1 with
  | none => rfl
  | some p =>
    have flag : 1 < u8 (byteOf l.val :: rest) 2 := h.resolve_left fun port => by
      rw [portOf_undefined port] at hport
      cases hport
    exact if_pos ((not_offOn_iff ..).mpr flag)

/-- A body of defined fields is judged by its lane and port (R80, R81). -/
theorem serveScannerSend_judged {p : PortId} (hport : portOf body 1 = some p) (hflag : u8 body 2 ≤ 1) (s : State) :
    serveScannerSend body s =
      (sendRefusal (s.lane l) p (u8 body 3) (isOn body 2)).elim
        (accept .ok (s.modPort l p (sendPort (body.drop 4) (isOn body 2)))) fun r => refuse r s := by
  obtain ⟨rest, rfl⟩ : ∃ rest, body = byteOf l.val :: rest := List.head?_eq_some_iff.mp hlane
  refine (if_neg (by omega)).trans ((withLane_lane _ l hlen).trans ?_)
  have defined : ¬(!offOn (byteOf l.val :: rest) 2) = true := by
    rw [not_offOn_iff]
    exact Nat.not_le.mpr (Nat.lt_succ_of_le hflag)
  rw [hport]
  refine (if_neg defined).trans ?_
  cases sendRefusal (s.lane l) p (u8 (byteOf l.val :: rest) 3) (isOn (byteOf l.val :: rest) 2) <;> rfl

theorem scannerSend_refused {p : PortId} {s : State} (hs : Serves s) (hport : u8 body 1 = if p = .A then 0 else 1)
    (hflag : u8 body 2 ≤ 1) {r : Result} (h : sendRefusal (s.lane l) p (u8 body 3) (isOn body 2) = some r) :
    RefusedAs (.scannerSend body) (resultByte r) s := by
  refine scannerSend_refusedAs hs ?_
  rw [serveScannerSend_judged hlane hn hn' hlen (portOf_port hport) hflag, lane_received, h]
  rfl

end

theorem toNat_byteOf {n : Nat} (h : n < 256) : (byteOf n).toNat = n := by
  simp only [byteOf, BitVec.toNat_ofNat]
  omega

/-- The body of a SCANNER_SEND (Table 11-6). -/
def sendBody (l : LaneId) (p : PortId) (flag : Bool) (bytes : List Byte) : List Byte :=
  laneByte l :: (if p = .A then 0x00 else 0x01) :: (if flag then 0x01 else 0x00) :: byteOf bytes.length :: bytes

theorem sendBody_fields (l : LaneId) (p : PortId) (flag : Bool) {bytes : List Byte} (h : bytes.length ≤ 6) :
    u8 (sendBody l p flag bytes) 1 = (if p = .A then 0 else 1) ∧ u8 (sendBody l p flag bytes) 2 = flag.toNat ∧
      u8 (sendBody l p flag bytes) 3 = bytes.length := by
  refine ⟨?_, ?_, toNat_byteOf (by omega)⟩
  · cases p <;> rfl
  · cases flag <;> rfl

/-- Settles O26. -/
theorem scannerSendQueued : Obligations.ScannerSendQueued := by
  refine ⟨⟨beginNext_eq, fun l p flag bytes s hs hrun hen hone hsix hroom hflag => ?_⟩, fun s hs =>
    ⟨fun b rest h => scannerSend_refusedAs hs (r := .badLane) (serveScannerSend_badLane h rest _),
      scannerSend_refusedAs hs (r := .badLength) rfl, fun l body hlane =>
      ⟨fun h => scannerSend_refusedAs hs (r := .badLength) (serveScannerSend_badLength hlane h _), fun hn hn' hlen =>
        ⟨fun h => scannerSend_refusedAs hs (r := .badValue) (serveScannerSend_badValue hlane hn hn' hlen h _),
          fun p hport hflag => ?_⟩⟩⟩⟩
  · obtain ⟨port, expect, number⟩ := sendBody_fields l p flag hsix
    have on : isOn (sendBody l p flag bytes) 2 = flag := by
      rw [isOn, expect]
      cases flag <;> rfl
    have some : bytes ≠ [] := List.ne_nil_of_length_pos hone
    show exec (.scannerSend (sendBody l p flag bytes)) s = .next (replied 0x29 (sendBody l p flag bytes) _ _)
    rw [exec_scannerSend hs, serveScannerSend_judged (l := l) rfl (by omega) (by omega)
      (by rw [number]; simp only [sendBody, List.length_cons]; omega) (portOf_port port) (by rw [expect]; cases flag <;> decide),
      on, number, lane_received, sendRefusal_none hrun hen hroom hflag]
    rw [← funext (sendPort_eq some flag)]
    rfl
  · have refused : ∀ {r}, sendRefusal (s.lane l) p (u8 body 3) (isOn body 2) = some r →
        RefusedAs (.scannerSend body) (resultByte r) s := scannerSend_refused hlane hn hn' hlen hs hport hflag
    have on : u8 body 2 = 1 → isOn body 2 = true := decide_eq_true
    refine ⟨fun h => refused (r := .state) (sendRefusal_state h), fun hrun hen =>
      ⟨fun hon hmark => refused (r := .badValue) (sendRefusal_unmarked hrun hen (on hon) hmark),
        fun hmark h => refused (r := .busy) (sendRefusal_busy hrun hen hn (hmark.imp_left fun off => ?_) (h.imp_right fun waits => ?_))⟩⟩
    · exact decide_eq_false (by omega)
    · exact ⟨on waits.1, waits.2⟩

end Sys2Proof.Machine
end

section
/-! PROOFS. O25: PORT_CONFIG. A body of defined fields gives a port and a configuration (R57), judged by its byte fields
and the lane (R58), and taken with its timeouts clamped (R59). -/

namespace Sys2Proof.Machine

open Sys2Proof.Claims

/-! ### The fields of a body (R57) -/

theorem parityOf_eq_none_iff (n : Nat) : parityOf n = none ↔ 2 < n := by
  match n with
  | 0 | 1 | 2 => simp [parityOf]
  | n + 3 => simp [parityOf]

theorem parityOf_defined {n : Nat} (h : n ≤ 2) :
    parityOf n = some (if n = 0 then .none else if n = 1 then .even else .odd) := by
  match n with
  | 0 | 1 | 2 => rfl

theorem portOf_defined {body : List Byte} {i : Nat} (h : u8 body i ≤ 1) :
    portOf body i = some (if u8 body i = 0 then .A else .B) := by
  unfold portOf
  by_cases zero : u8 body i = 0
  · rw [if_pos zero, if_pos zero]
  · rw [if_neg zero, if_neg zero, if_pos (by omega)]

/-- A field of a PORT_CONFIG body outside its defined values, the port field left out. -/
def PortFieldUndefined (body : List Byte) : Prop :=
  1 < u8 body 2 ∨ 7 < u8 body 3 ∨ (u8 body 4 ≠ 7 ∧ u8 body 4 ≠ 8) ∨ 2 < u8 body 5 ∨ 16 ≤ u8 body 6 ∨ 1 < u8 body 14

/-- The configuration at the places of a PORT_CONFIG body (Table 11-6). -/
def portFields (body : List Byte) : PortConfig :=
  { enabled := decide (u8 body 2 = 1), rate := u8 body 3, sevenBits := decide (u8 body 4 = 7)
    parity := if u8 body 5 = 0 then .none else if u8 body 5 = 1 then .even else .odd
    pre := { present := (u8 body 6).testBit 0, value := body.getD 7 0 }, terminator := body.getD 8 0
    replyMark := { present := (u8 body 6).testBit 1, value := body.getD 9 0 }, gapTimeout := u8 body 10
    goodTone := { present := (u8 body 6).testBit 2, value := body.getD 11 0 }
    badTone := { present := (u8 body 6).testBit 3, value := body.getD 12 0 }, replyTimeout := u8 body 13
    holdActiveLow := decide (u8 body 14 = 1) }

/-- The check of the fields other than the parity field. -/
theorem portFieldsCheck_iff (body : List Byte) :
    (offOn body 2 && decide (u8 body 3 ≤ 7) && (decide (u8 body 4 = 7) || decide (u8 body 4 = 8)) &&
        bitsBelow 4 (u8 body 6) && offOn body 14) = true ↔
      u8 body 2 ≤ 1 ∧ u8 body 3 ≤ 7 ∧ (u8 body 4 = 7 ∨ u8 body 4 = 8) ∧ u8 body 6 < 16 ∧ u8 body 14 ≤ 1 := by
  simp [offOn_iff, bitsBelow_iff, and_assoc]

theorem portGiven_defined {body : List Byte} (h : ¬PortFieldUndefined body) : portGiven body = some (portFields body) := by
  unfold PortFieldUndefined at h
  have check := (portFieldsCheck_iff body).mpr (by omega)
  simp only [portGiven, parityOf_defined (show u8 body 5 ≤ 2 by omega), check, if_true]
  rfl

theorem portGiven_undefined {body : List Byte} (h : PortFieldUndefined body) : portGiven body = none := by
  unfold portGiven
  split
  · rfl
  · next parity known =>
    have low : ¬2 < u8 body 5 := fun high => by
      rw [(parityOf_eq_none_iff _).mpr high] at known
      cases known
    refine if_neg fun check => ?_
    have defined := (portFieldsCheck_iff body).mp check
    unfold PortFieldUndefined at h
    omega

theorem portGiven_eq_some {body : List Byte} {c : PortConfig} (h : portGiven body = some c) : c = portFields body := by
  by_cases undefined : PortFieldUndefined body
  · rw [portGiven_undefined undefined] at h
    cases h
  · exact Option.some.inj (h.symm.trans (portGiven_defined undefined))

/-! ### The byte fields and the timeouts (R58, R59) -/

theorem byteFieldsBad_iff (c : PortConfig) : byteFieldsBad c = true ↔ BreaksByteFields c := by
  simp [byteFieldsBad, BreaksByteFields, aboveSeven, or_assoc]

theorem u8_le (body : List Byte) (i : Nat) : u8 body i ≤ 255 := Nat.le_of_lt_succ (body.getD i 0).isLt

/-- Clamped timeouts of one byte: only their lower limits matter (R59). -/
theorem clampPort_eq {c : PortConfig} (hgap : c.gapTimeout ≤ 255) (hreply : c.replyTimeout ≤ 255) :
    clampPort c =
      { c with
        gapTimeout := if 1 ≤ c.gapTimeout ∧ c.gapTimeout < 5 then 5 else c.gapTimeout
        replyTimeout := if c.replyTimeout = 0 then 1 else c.replyTimeout } := by
  have gap : (if c.gapTimeout = 0 then 0 else clamp 5 255 c.gapTimeout) =
      if 1 ≤ c.gapTimeout ∧ c.gapTimeout < 5 then 5 else c.gapTimeout := by
    unfold clamp
    split <;> split <;> omega
  have reply : clamp 1 255 c.replyTimeout = if c.replyTimeout = 0 then 1 else c.replyTimeout := by
    unfold clamp
    split <;> omega
  rw [clampPort, gap, reply]

theorem resultByte_okOrClamped {c d : PortConfig} :
    resultByte (okOrClamped (decide (d ≠ c))) = if d = c then 0x00 else 0x01 := by
  by_cases same : d = c <;> simp [same, okOrClamped, resultByte]

/-! ### The HOLD pin (R73) -/

theorem holdPin_eq (P : Port) : holdPin P = if P.cfg.holdActiveLow then !P.hold else P.hold := by
  unfold holdPin
  cases P.cfg.holdActiveLow
  · exact Bool.xor_false _
  · exact Bool.xor_true _

@[simp] theorem settleLane_port_cfg (L : Lane) (p : PortId) : ((settleLane L).port p).cfg = (L.port p).cfg := by
  cases p <;> rfl

theorem settleLane_port_hold (L : Lane) (p : PortId) : ((settleLane L).port p).hold = holdLevel L (L.port p) := by
  cases p <;> rfl

/-- In a READY lane HOLD is asserted: its pins are at their active levels (R73). -/
theorem holdPin_settleLane_ready {L : Lane} (h : L.run = .ready) (p : PortId) :
    holdPin ((settleLane L).port p) = !(L.port p).cfg.holdActiveLow := by
  have asserted : holdLevel L (L.port p) = true := by
    rw [holdLevel_eq, decide_eq_true_eq, h]
    exact .inl (by decide)
  rw [holdPin_eq, settleLane_port_hold, asserted, settleLane_port_cfg]
  cases (L.port p).cfg.holdActiveLow <;> rfl

/-! ### PORT_CONFIG, judged -/

section

variable {l : LaneId} {body : List Byte} {s : State} (hs : Serves s) (hlen : body.length = 15)
  (hlane : body.head? = some (laneByte l))

include hs hlen hlane

theorem portConfig_undefined (h : portOf body 1 = none ∨ portGiven body = none) : RefusedAs (.portConfig body) 0x04 s := by
  refine ⟨0x28, body, rfl, (frameCompletes_lane hs _ (kind := 0x28) (by decide) hlen hlane).trans ?_⟩
  rcases h with none | none <;> rw [none]
  · rfl
  · cases portOf body 1 <;> rfl

variable {p : PortId} {c : PortConfig} (hport : portOf body 1 = some p) (hgiven : portGiven body = some c)

include hport hgiven

/-- A PORT_CONFIG of defined fields is judged by its byte fields, then by the lane (R58), and taken (R59). -/
theorem exec_portConfig :
    exec (.portConfig body) s =
      .next (
        if byteFieldsBad c then replied 0x28 body [0x04] (received s)
        else if (s.lane l).run = .running then replied 0x28 body [0x06] (received s)
        else replied 0x28 body [if clampPort c = c then 0x00 else 0x01]
          ((received s).modPort l p fun P => { P with cfg := clampPort c })) := by
  refine (frameCompletes_lane hs _ (kind := 0x28) (by decide) hlen hlane).trans ?_
  rw [hport, hgiven, ← resultByte_okOrClamped]
  dsimp only
  rw [lane_received]
  by_cases bad : byteFieldsBad c = true
  · rw [if_pos bad, if_pos bad]
    rfl
  · rw [if_neg bad, if_neg bad]
    split <;> rfl

theorem exec_portConfig_taken (hbytes : ¬BreaksByteFields c) (hready : (s.lane l).run = .ready) :
    exec (.portConfig body) s =
      .next (replied 0x28 body [if clampPort c = c then 0x00 else 0x01]
        ((received s).modPort l p fun P => { P with cfg := clampPort c })) := by
  rw [exec_portConfig hs hlen hlane hport hgiven, if_neg (mt (byteFieldsBad_iff c).mp hbytes),
    if_neg (by rw [hready]; decide)]

end

/-- Settles O25. -/
theorem portConfigTaken : Obligations.PortConfigTaken := by
  refine ⟨holdPin_eq, fun l body s hs hlen hlane => ⟨fun undefined => ?_, fun defined => ?_⟩,
    fun l p body c s hs hlen hlane hport hgiven => ?_⟩
  · exact portConfig_undefined hs hlen hlane (undefined.imp portOf_undefined portGiven_undefined)
  · obtain ⟨port, fields⟩ := not_or.mp defined
    exact ⟨portOf_defined (Nat.le_of_not_lt port), portGiven_defined fields⟩
  · have timeouts : c.gapTimeout ≤ 255 ∧ c.replyTimeout ≤ 255 := by
      rw [portGiven_eq_some hgiven]
      exact ⟨u8_le body 10, u8_le body 13⟩
    rw [← clampPort_eq timeouts.1 timeouts.2]
    have judged := exec_portConfig hs hlen hlane hport hgiven
    have taken := exec_portConfig_taken hs hlen hlane hport hgiven
    refine ⟨fun bad => ⟨0x28, body, rfl, ?_⟩, fun good running => ⟨0x28, body, rfl, ?_⟩, taken,
      fun good ready => ⟨_, taken good ready, ?_⟩⟩
    · rw [judged, if_pos ((byteFieldsBad_iff c).mpr bad)]
    · rw [judged, if_neg (mt (byteFieldsBad_iff c).mp good), if_pos running]
    · have configured : ((received s).modPort l p fun P => { P with cfg := clampPort c }).lane l =
          (s.lane l).modPort p fun P => { P with cfg := clampPort c } := State.lane_modLane_same ..
      rw [State.port, lane_replied, configured, holdPin_settleLane_ready ((Lane.modPort_run ..).trans ready), Lane.port_modPort_same]
      rfl

end Sys2Proof.Machine
end

section
/-! PROOFS. O33: the check digit. The weighted sum runs through the digits from the right, so the leftmost digit is the last to
join it, with the number that its place from the right gives. -/

namespace Sys2Proof.Machine

/-- A digit on the left of all others joins the sum with the weight of its number from the right. -/
theorem weightedSum_append_singleton (odd even d : Nat) (ds : List Nat) :
    weightedSum odd even (ds ++ [d]) = weightedSum odd even ds + (if (ds.length + 1) % 2 = 1 then odd else even) * d := by
  induction ds generalizing odd even with
  | nil => simp [weightedSum]
  | cons c cs ih =>
    rw [List.cons_append, weightedSum, weightedSum, ih even odd, List.length_cons, Nat.add_assoc]
    have parity : (cs.length + 1 + 1) % 2 = 1 ↔ ¬(cs.length + 1) % 2 = 1 := by omega
    simp only [parity, ite_not]

/-- The sum of R103 as it numbers the digits: the j-th of n from the left is number n - j from the right. -/
theorem weightedSum_reverse (odd even : Nat) (digits : List Byte) :
    weightedSum odd even (digits.reverse.map digitOf) =
      ((List.range digits.length).map fun j =>
        (if (digits.length - j) % 2 = 1 then odd else even) * ((digits.getD j 0).toNat - 0x30)).sum := by
  induction digits with
  | nil => rfl
  | cons d ds ih =>
    rw [List.reverse_cons, List.map_append, List.map_singleton, weightedSum_append_singleton, ih, List.length_cons,
      List.range_succ_eq_map]
    simp only [List.map_cons, List.map_map, Function.comp_def, List.sum_cons, Nat.succ_eq_add_one, Nat.add_sub_add_right,
      List.length_map, List.length_reverse, Nat.sub_zero]
    exact Nat.add_comm ..

/-- Settles O33. -/
theorem checkDigitSum : Obligations.CheckDigitSum := by
  intro odd even digits check
  rw [← weightedSum_reverse, checkPasses, List.reverse_append]
  rfl

end Sys2Proof.Machine
end

section
/-! PROOFS. O34: FILTER_CONFIG, SYMBOLOGY_WRITE and FORGET. A SYMBOLOGY_WRITE is judged entry by entry: a good entry is stored with
its lengths clamped, and the entries are then written one index after the other. FORGET is the attempts of its lane. -/

namespace Sys2Proof.Machine

open Sys2Proof.Claims

/-! ### FILTER_CONFIG (R94) -/

theorem exec_filterConfig {s : State} (hs : Serves s) (body : List Byte) :
    exec (.filterConfig body) s =
      .next (replied 0x30 body (serveFilterConfig body (received s)).2 (serveFilterConfig body (received s)).1) :=
  congrArg Host.Outcome.next (frameCompletes_serves hs serveFilterConfig (by decide) body)

theorem filterConfig_refusedAs {s : State} (hs : Serves s) {body : List Byte} {r : Result}
    (h : serveFilterConfig body (received s) = refuse r (received s)) : RefusedAs (.filterConfig body) (resultByte r) s :=
  ⟨0x30, body, rfl, by rw [exec_filterConfig hs, h]; rfl⟩

theorem serveFilterConfig_badValue {body : List Byte} (hlen : body.length = 5) (h : 2 ≤ u8 body 0) (s : State) :
    serveFilterConfig body s = refuse .badValue s :=
  (if_pos hlen).trans (if_pos ((not_offOn_iff ..).mpr h))

theorem clamp_window (n : Nat) : clamp 0 5000 n = min n 5000 := by unfold clamp; omega

/-- The result of a request that brings settings into range: OK where nothing changed (R182). -/
theorem resultByte_okOrClamped_iff {changed : Bool} {kept : Prop} [Decidable kept] (h : changed = true ↔ ¬kept) :
    resultByte (okOrClamped changed) = if kept then 0x00 else 0x01 := by
  by_cases k : kept
  · rw [if_pos k, Bool.eq_false_iff.mpr fun c => h.mp c k]
    rfl
  · rw [if_neg k, h.mpr k]
    rfl

theorem serveFilterConfig_taken {body : List Byte} (hlen : body.length = 5) (h : u8 body 0 ≤ 1) (s : State) :
    serveFilterConfig body s =
      ({ s with strict := decide (u8 body 0 = 1), sameWindow := min (u16 body 1) 5000, crossWindow := min (u16 body 3) 5000 },
        [if u16 body 1 ≤ 5000 ∧ u16 body 3 ≤ 5000 then 0x00 else 0x01]) := by
  have defined : ¬(!offOn body 0) = true := fun bad => absurd ((not_offOn_iff ..).mp bad) (Nat.not_lt.mpr h)
  refine (if_pos hlen).trans ((if_neg defined).trans ?_)
  rw [clamp_window, clamp_window, accept, resultByte_okOrClamped_iff (kept := u16 body 1 ≤ 5000 ∧ u16 body 3 ≤ 5000)]
  · rfl
  · rw [Bool.or_eq_true, decide_eq_true_eq, decide_eq_true_eq]
    omega

/-! ### The entries of a SYMBOLOGY_WRITE body (R92, R93) -/

/-- Whether entry j of a body holds an undefined value: its presence mark, or the rule of a present entry (R93). -/
def SymEntryBad (body : List Byte) (j : Nat) : Prop :=
  1 < u8 body (2 + 5 * j) ∨ u8 body (2 + 5 * j) = 1 ∧ 2 < u8 body (6 + 5 * j)

/-- Whether entry j of a body is stored with other lengths than it is written with; an empty one never is (log entry 32). -/
def symChanged (body : List Byte) (j : Nat) : Bool :=
  decide (u8 body (2 + 5 * j) = 1 ∧ symLengths body j ≠ (u8 body (4 + 5 * j), u8 body (5 + 5 * j)))

theorem ruleOf_eq_none_iff (n : Nat) : ruleOf n = none ↔ 2 < n := by
  match n with
  | 0 | 1 | 2 => simp [ruleOf]
  | n + 3 => simp [ruleOf]

theorem ruleOf_defined {n : Nat} (h : n ≤ 2) :
    ruleOf n = some (if n = 0 then .none else if n = 1 then .mod10w31 else .mod10w13) := by
  match n with
  | 0 | 1 | 2 => rfl

theorem symEntryOf_bad {body : List Byte} {j : Nat} (h : SymEntryBad body j) : symEntryOf body j = none := by
  obtain mark | ⟨present, rule⟩ := h
  · exact (if_neg (by omega)).trans (if_pos (by omega))
  · refine (if_neg (by omega)).trans ((if_neg (not_not_intro present)).trans ?_)
    rw [show 2 + 5 * j + 4 = 6 + 5 * j by omega, (ruleOf_eq_none_iff _).mpr rule]

theorem symEntryOf_good {body : List Byte} {j : Nat} (h : ¬SymEntryBad body j) :
    symEntryOf body j = some (symStored body j, symChanged body j) := by
  unfold SymEntryBad at h
  by_cases empty : u8 body (2 + 5 * j) = 0
  · refine (if_pos empty).trans ?_
    rw [symStored, if_pos empty, symChanged, decide_eq_false (by omega)]
  · have present : u8 body (2 + 5 * j) = 1 := by omega
    refine (if_neg empty).trans ((if_neg (not_not_intro present)).trans ?_)
    rw [show 2 + 5 * j + 4 = 6 + 5 * j by omega, show 2 + 5 * j + 3 = 5 + 5 * j by omega,
      show 2 + 5 * j + 2 = 4 + 5 * j by omega, show 2 + 5 * j + 1 = 3 + 5 * j by omega, ruleOf_defined (by omega),
      symStored, if_neg empty, symChanged]
    simp only [present, true_and, ne_eq, Prod.ext_iff, not_and_or, Bool.decide_or]
    rfl

/-- The entries that a SYMBOLOGY_WRITE body of n good entries gives, in order, each with whether it was clamped. -/
theorem mapM_symEntryOf {body : List Byte} {n : Nat} (h : ∀ j, j < n → ¬SymEntryBad body j) :
    (List.range n).mapM (symEntryOf body) = some ((List.range n).map fun j => (symStored body j, symChanged body j)) :=
  mapM_eq_some_map fun j hj => symEntryOf_good (h j (List.mem_range.mp hj))

/-! ### The Symbology Table written (R93) -/

/-- Each index written takes its entry, and every other keeps its own. -/
theorem getElem_writeSymbology (table : Vector SymEntry 8) (first : Nat) (entries : List SymEntry) (i : Nat) (hi : i < 8) :
    (writeSymbology table first entries)[i] = if first ≤ i then entries[i - first]?.getD table[i] else table[i] := by
  induction entries generalizing table first with
  | nil => simp [writeSymbology]
  | cons e es ih =>
    rw [writeSymbology, ih]
    obtain below | rfl | above := Nat.lt_trichotomy i first
    · rw [if_neg (by omega), if_neg (by omega), Vector.getElem_setIfInBounds_ne _ (by omega)]
    · rw [if_neg (by omega), if_pos (Nat.le_refl _)]
      simp
    · rw [if_pos (by omega), if_pos (by omega), Vector.getElem_setIfInBounds_ne _ (by omega),
        show i - first = i - (first + 1) + 1 by omega, List.getElem?_cons_succ]

/-- The indices that a SYMBOLOGY_WRITE of n entries writes read the entries of its body in order. -/
theorem getElem_symbologyWritten (table : Vector SymEntry 8) (body : List Byte) (first n : Nat) (i : Fin 8) :
    (writeSymbology table first ((List.range n).map (symStored body)))[i] =
      if first ≤ i.val ∧ i.val < first + n then symStored body (i.val - first) else table[i] := by
  rw [Fin.getElem_fin, getElem_writeSymbology]
  by_cases above : first ≤ i.val
  · by_cases below : i.val < first + n
    · have inside : i.val - first < n := by omega
      simp [above, below, inside]
    · have outside : n ≤ i.val - first := by omega
      simp [below, outside]
  · simp [above]

/-! ### SYMBOLOGY_WRITE, judged -/

theorem exec_symbologyWrite {s : State} (hs : Serves s) (body : List Byte) :
    exec (.symbologyWrite body) s =
      .next (replied 0x31 body (serveSymbologyWrite body (received s)).2 (serveSymbologyWrite body (received s)).1) :=
  congrArg Host.Outcome.next (frameCompletes_serves hs serveSymbologyWrite (by decide) body)

theorem symbologyWrite_refusedAs {s : State} (hs : Serves s) {body : List Byte} {r : Result}
    (h : serveSymbologyWrite body (received s) = refuse r (received s)) : RefusedAs (.symbologyWrite body) (resultByte r) s :=
  ⟨0x31, body, rfl, by rw [exec_symbologyWrite hs, h]; rfl⟩

/-- A count of 0 or above 8, or another length than the count gives, is BAD_LENGTH (R93). -/
theorem serveSymbologyWrite_badLength {body : List Byte}
    (h : u8 body 1 = 0 ∨ 8 < u8 body 1 ∨ body.length ≠ 2 + 5 * u8 body 1) (s : State) :
    serveSymbologyWrite body s = refuse .badLength s := by
  refine if_pos ?_
  simp only [Bool.or_eq_true, decide_eq_true_eq]
  tauto

section

variable {body : List Byte} (hn : 1 ≤ u8 body 1) (hn' : u8 body 1 ≤ 8) (hlen : body.length = 2 + 5 * u8 body 1)

include hn hn' hlen

/-- A body of 1 to 8 entries is judged by its span, then by its values (R93). -/
theorem serveSymbologyWrite_counted (s : State) :
    serveSymbologyWrite body s =
      if 8 < u8 body 0 + u8 body 1 then refuse .badValue s
      else
        ((List.range (u8 body 1)).mapM (symEntryOf body)).elim (refuse .badValue s) fun entries =>
          accept (okOrClamped (entries.any Prod.snd))
            { s with symbology := writeSymbology s.symbology (u8 body 0) (entries.map Prod.fst) } := by
  refine (if_neg ?_).trans ?_
  · simp only [Bool.or_eq_true, decide_eq_true_eq]
    omega
  · cases (List.range (u8 body 1)).mapM (symEntryOf body) <;> rfl

theorem serveSymbologyWrite_badValue (h : 8 < u8 body 0 + u8 body 1 ∨ ∃ j, j < u8 body 1 ∧ SymEntryBad body j) (s : State) :
    serveSymbologyWrite body s = refuse .badValue s := by
  rw [serveSymbologyWrite_counted hn hn' hlen]
  obtain span | ⟨j, hj, bad⟩ := h
  · exact if_pos span
  · rw [mapM_eq_none_of_mem (List.mem_range.mpr hj) (symEntryOf_bad bad)]
    exact ite_self _

/-- A body of good entries inside the table writes them (R93). -/
theorem exec_symbologyWrite_good {s : State} (hs : Serves s) (hspan : u8 body 0 + u8 body 1 ≤ 8)
    (good : ∀ j, j < u8 body 1 → ¬SymEntryBad body j) :
    exec (.symbologyWrite body) s =
      .next (replied 0x31 body [resultByte (okOrClamped ((List.range (u8 body 1)).any (symChanged body)))]
        { received s with
          symbology := writeSymbology s.symbology (u8 body 0) ((List.range (u8 body 1)).map (symStored body)) }) := by
  rw [exec_symbologyWrite hs, serveSymbologyWrite_counted hn hn' hlen, if_neg (Nat.not_lt.mpr hspan), mapM_symEntryOf good]
  simp only [Option.elim_some, List.any_map, List.map_map]
  rfl

end

/-- A SYMBOLOGY_WRITE of one good entry. -/
theorem exec_symbologyWrite_one {s : State} (hs : Serves s) (i : Fin 8) {present mark lo hi rule : Byte}
    (good : ¬SymEntryBad [byteOf i.val, 1, present, mark, lo, hi, rule] 0) :
    let body : List Byte := [byteOf i.val, 1, present, mark, lo, hi, rule]
    exec (.symbologyWrite body) s =
      .next (replied 0x31 body [resultByte (okOrClamped (symChanged body 0))]
        { received s with symbology := s.symbology.set i (symStored body 0) }) := by
  intro body
  have first : u8 body 0 = i.val := toNat_byteOf (by omega)
  have one : u8 body 1 = 1 := rfl
  have entry : ∀ j, j < u8 body 1 → ¬SymEntryBad body j := fun j hj => by
    obtain rfl : j = 0 := by omega
    exact good
  have writtenAt : ∀ e, s.symbology.setIfInBounds i e = s.symbology.set i e := fun e =>
    Vector.ext fun k hk => by rw [Vector.getElem_setIfInBounds, Vector.getElem_set]
  rw [exec_symbologyWrite_good (by omega) (by omega) rfl hs (by omega) entry, first, one, ← writtenAt,
    ← Bool.or_false (symChanged body 0)]
  rfl

/-! ### FORGET (R112) -/

/-- A lane section with its recent-code table emptied. -/
def recentEmptied (L : Lane) : Lane := { L with recent := [] }

theorem run_recentEmptied (l : LaneId) (s : State) : ((s.modLane l recentEmptied).lane l).run = (s.lane l).run := by
  rw [State.lane_modLane_same]
  rfl

theorem port_recentEmptied (l : LaneId) (p : PortId) (s : State) : (s.modLane l recentEmptied).port l p = s.port l p := by
  rw [State.port, State.lane_modLane_same]
  cases p <;> rfl

theorem exec_forget {s : State} (hs : Serves s) (l : LaneId) :
    exec (.forget [laneByte l]) s =
      .next (replied 0x32 [laneByte l] [0x00] (attemptChain l true ((received s).modLane l recentEmptied))) :=
  frameCompletes_lane hs _ (kind := 0x32) (by decide) rfl rfl

/-- Settles O34. -/
theorem filterRequests : Obligations.FilterRequests := by
  intro s hs
  refine ⟨fun body hlen => filterConfig_refusedAs hs (r := .badLength) (if_neg hlen), fun body hlen =>
      ⟨fun h => filterConfig_refusedAs hs (r := .badValue) (serveFilterConfig_badValue hlen h _), fun h => ?_⟩,
    fun i mark lo hi rule r hr => ?_, fun i mark lo hi rule => ?_, fun body => ⟨fun h => ?_, fun hn hn' hlen h => ?_⟩,
    fun body hn hn' hlen hspan good => ?_, fun l => ?_⟩
  · rw [exec_filterConfig hs, serveFilterConfig_taken hlen h]
  · have defined : rule.toNat ≤ 2 := Nat.not_lt.mp fun high => by
      rw [(ruleOf_eq_none_iff _).mpr high] at hr
      cases hr
    obtain rfl : _ = r := Option.some.inj ((ruleOf_defined defined).symm.trans hr)
    intro top low body
    have good : ¬SymEntryBad body 0 := by
      rintro (twice | ⟨-, rule⟩)
      · exact Nat.lt_irrefl 1 twice
      · exact Nat.not_lt.mpr defined rule
    have kept : symChanged body 0 = true ↔ ¬(low = lo.toNat ∧ top = hi.toNat) := by
      rw [symChanged, decide_eq_true_eq, ← Prod.mk.injEq]
      exact and_iff_right rfl
    rw [exec_symbologyWrite_one hs i good, resultByte_okOrClamped_iff kept]
    rfl
  · have good : ¬SymEntryBad [byteOf i.val, 1, 0, mark, lo, hi, rule] 0 := by
      rintro (twice | ⟨present, -⟩)
      · exact Nat.not_lt_zero 1 twice
      · exact Nat.zero_ne_one present
    exact exec_symbologyWrite_one hs i good
  · exact symbologyWrite_refusedAs hs (r := .badLength) (serveSymbologyWrite_badLength h _)
  · exact symbologyWrite_refusedAs hs (r := .badValue) (serveSymbologyWrite_badValue hn hn' hlen h _)
  · have entries : ∀ j, j < u8 body 1 → ¬SymEntryBad body j := fun j hj bad => by
      unfold SymEntryBad at bad
      have := good j hj
      omega
    have changed : (List.range (u8 body 1)).any (symChanged body) = true ↔ ¬∀ j, j < u8 body 1 → u8 body (2 + 5 * j) = 1 →
        symLengths body j = (u8 body (4 + 5 * j), u8 body (5 + 5 * j)) := by
      simp [symChanged]
    refine ⟨_, _, fun kept => ?_, fun lost => ?_, exec_symbologyWrite_good hn hn' hlen hs hspan entries,
      getElem_symbologyWritten s.symbology body _ _⟩
    · rw [resultByte_okOrClamped_iff changed, if_pos kept]
    · rw [resultByte_okOrClamped_iff changed, if_neg lost]
  · have run := run_recentEmptied l (received s)
    have slots := fun p => congrArg Port.slot (port_recentEmptied l p (received s))
    have answered : ∀ {t}, attemptChain l true ((received s).modLane l recentEmptied) = t →
        exec (.forget [laneByte l]) s = .next (replied 0x32 [laneByte l] [0x00] t) := fun e => e ▸ exec_forget hs l
    refine ⟨fun ready => answered (attemptChain_of_not_running ?_ true), fun ha hb => answered (attemptChain_none ?_ true),
      fun p r running head => ⟨fun alone => answered (attemptChain_alone ?_ ?_ ?_ true),
        fun w other first => answered (attemptChain_both ?_ ?_ ?_ first true)⟩⟩
    · rw [run, lane_received, ready]
      decide
    · exact headPort_none ((slots .A).trans ha) ((slots .B).trans hb)
    · exact run.trans running
    · exact (slots p).trans head
    · exact (slots (otherPort p)).trans alone
    · exact run.trans running
    · exact (slots p).trans head
    · exact (slots (otherPort p)).trans other

end Sys2Proof.Machine
end

section
/-! PROOFS. O59: the recent-code tables, the Fault Records, every buffer and every setting stay within their laws. What a step may
do to a stored value is said once, as one relation for the four laws: each lane section keeps its values right part by part, and
the device section keeps its counts, its holding area and the filter. -/

namespace Sys2Proof.Machine

open Sys2Proof.Claims

/-! ### The laws of one lane section and of the device section -/

/-- What R108 says of one recent-code table. -/
def RecentRight (table : List RecentEntry) : Prop := table.length ≤ 8 ∧ (table.map RecentEntry.code).Nodup

/-- What R170 and R171 say of one Fault Record. -/
def FaultRight (r : FaultRecord) : Prop := r.further ≤ 255 ∧ (r.locked = false → r = {})

/-- A record of 1 to 4 slots (R115). -/
def RecordFits (b : RecBody) : Prop := 1 ≤ recordSlots b ∧ recordSlots b ≤ 4

/-- The buffers, the records and the pending losses of one lane section within their sizes. -/
def LaneFits (L : Lane) : Prop := PortFits L.portA ∧ PortFits L.portB ∧ L.lost ≤ 255 ∧ ∀ r ∈ L.queue, RecordFits r.body

/-- The settings of one drawer within Table 8-1. -/
def DrawerInRange (D : Drawer) : Prop := TimingInRange D.staged ∧ TimingInRange D.active ∧ 5 ≤ D.debounce ∧ D.debounce ≤ 100

/-- The settings of one lane section within Tables 1-7, 4-2 and 8-1. -/
def SettingsInRange (L : Lane) : Prop :=
  LaneInRange L.cfg ∧ PortInRange L.portA.cfg ∧ PortInRange L.portB.cfg ∧ DrawerInRange L.drawer

/-- The two counts of the system line within their sizes (R179, R181). -/
def CountsFit (s : State) : Prop := s.badFrames ≤ 65535 ∧ s.overruns ≤ 65535

/-- The Symbology Table and the windows within R92 and R94. -/
def FilterInRange (s : State) : Prop := (∀ i : Fin 8, SymInRange s.symbology[i]) ∧ s.sameWindow ≤ 5000 ∧ s.crossWindow ≤ 5000

theorem recentLaw_iff (s : State) : RecentLaw s ↔ ∀ l : LaneId, RecentRight (s.lane l).recent := Iff.rfl

theorem faultLaw_iff (s : State) : FaultLaw s ↔ ∀ l : LaneId, FaultRight (s.lane l).fault := Iff.rfl

theorem sizeLaw_iff (s : State) : SizeLaw s ↔ (∀ l : LaneId, LaneFits (s.lane l)) ∧ s.area.length ≤ 2 ∧ CountsFit s := Iff.rfl

theorem rangeLaw_iff (s : State) : RangeLaw s ↔ (∀ l : LaneId, SettingsInRange (s.lane l)) ∧ FilterInRange s := Iff.rfl

theorem LaneFits.port {L : Lane} (h : LaneFits L) (p : PortId) : PortFits (L.port p) := by
  obtain ⟨hA, hB, -⟩ := h
  cases p
  · exact hA
  · exact hB

theorem LaneFits.queue {L : Lane} (h : LaneFits L) : ∀ r ∈ L.queue, RecordFits r.body := by
  obtain ⟨-, -, -, records⟩ := h
  exact records

/-! ### What a change keeps -/

/-- A change of a port keeps its buffers within their sizes and its settings within their ranges. -/
structure PortKept (P P' : Port) : Prop where
  fits : PortFits P → PortFits P'
  range : PortInRange P.cfg → PortInRange P'.cfg

/-- A change of a lane section keeps each stored value right. A record that joins the queue may draw its size from a slot, so the
records are judged by the sizes of all the buffers before the change. -/
structure ValuesKept (L L' : Lane) : Prop where
  recent : RecentRight L.recent → RecentRight L'.recent
  fault : FaultRight L.fault → FaultRight L'.fault
  cfg : LaneInRange L.cfg → LaneInRange L'.cfg
  portA : PortKept L.portA L'.portA
  portB : PortKept L.portB L'.portB
  drawer : DrawerInRange L.drawer → DrawerInRange L'.drawer
  lost : L.lost ≤ 255 → L'.lost ≤ 255
  queue : LaneFits L → ∀ r ∈ L'.queue, RecordFits r.body

/-- A change of the part keeps each stored value right, its holding area growing to `room` frames at most. -/
structure StoredKept (room : Nat) (s t : State) : Prop where
  lanes : ∀ l : LaneId, ValuesKept (s.lane l) (t.lane l)
  area : t.area.length ≤ max s.area.length room
  counts : CountsFit s → CountsFit t
  filter : FilterInRange s → FilterInRange t

theorem PortKept.trans {P Q R : Port} (h : PortKept P Q) (h' : PortKept Q R) : PortKept P R :=
  ⟨h'.fits ∘ h.fits, h'.range ∘ h.range⟩

theorem PortKept.refl (P : Port) : PortKept P P := ⟨id, id⟩

theorem ValuesKept.refl (L : Lane) : ValuesKept L L where
  recent := id
  fault := id
  cfg := id
  portA := .refl _
  portB := .refl _
  drawer := id
  lost := id
  queue := LaneFits.queue

theorem ValuesKept.fits {L L' : Lane} (h : ValuesKept L L') (hL : LaneFits L) : LaneFits L' := by
  have records := h.queue hL
  obtain ⟨hA, hB, hlost, -⟩ := hL
  exact ⟨h.portA.fits hA, h.portB.fits hB, h.lost hlost, records⟩

theorem ValuesKept.settings {L L' : Lane} (h : ValuesKept L L') (hL : SettingsInRange L) : SettingsInRange L' := by
  obtain ⟨hcfg, hA, hB, hdrawer⟩ := hL
  exact ⟨h.cfg hcfg, h.portA.range hA, h.portB.range hB, h.drawer hdrawer⟩

theorem ValuesKept.trans {L M N : Lane} (h : ValuesKept L M) (h' : ValuesKept M N) : ValuesKept L N where
  recent := h'.recent ∘ h.recent
  fault := h'.fault ∘ h.fault
  cfg := h'.cfg ∘ h.cfg
  portA := h.portA.trans h'.portA
  portB := h.portB.trans h'.portB
  drawer := h'.drawer ∘ h.drawer
  lost := h'.lost ∘ h.lost
  queue hL := h'.queue (h.fits hL)

theorem ValuesKept.modPort {L : Lane} {p : PortId} {f : Port → Port} (h : PortKept (L.port p) (f (L.port p))) :
    ValuesKept L (L.modPort p f) := by
  cases p with
  | A => exact { ValuesKept.refl L with portA := h }
  | B => exact { ValuesKept.refl L with portB := h }

/-- The stored values of a lane section. -/
def storedView (L : Lane) :=
  ((L.recent, L.fault, L.cfg, L.queue, L.lost), (L.portA, L.portB), (L.drawer.staged, L.drawer.active, L.drawer.debounce))

/-- A change of no stored value. -/
theorem ValuesKept.of_view {L L' : Lane} (h : storedView L' = storedView L) : ValuesKept L L' := by
  simp only [storedView, Prod.mk.injEq] at h
  obtain ⟨⟨hrecent, hfault, hcfg, hqueue, hlost⟩, ⟨hA, hB⟩, hstaged, hactive, hdebounce⟩ := h
  exact
    { recent := by rw [hrecent]; exact id
      fault := by rw [hfault]; exact id
      cfg := by rw [hcfg]; exact id
      portA := by rw [hA]; exact .refl _
      portB := by rw [hB]; exact .refl _
      drawer := by rw [DrawerInRange, DrawerInRange, hstaged, hactive, hdebounce]; exact id
      lost := by rw [hlost]; exact id
      queue := by rw [hqueue]; exact LaneFits.queue }

/-! ### The recent-code table (R105, R107, R108) -/

/-- An entry put in front of a table without the other entries of its code. -/
theorem nodup_code_front {table : List RecentEntry} (h : (table.map RecentEntry.code).Nodup) {e : RecentEntry} {code : List Byte}
    (he : e.code = code) : ((e :: table.filter fun e' => decide (e'.code ≠ code)).map RecentEntry.code).Nodup := by
  rw [List.map_cons, List.nodup_cons]
  refine ⟨?_, h.sublist (List.filter_sublist.map _)⟩
  simp [he]

theorem recentRight_accept (p : PortId) (r : SlotRecord) {table : List RecentEntry} (h : RecentRight table) :
    RecentRight (recentAccept p r table) := by
  obtain ⟨-, distinct⟩ := h
  refine ⟨List.length_take_le .., (nodup_code_front distinct ?_).sublist ((List.take_sublist ..).map _)⟩
  rfl

theorem recentRight_suppress (r : SlotRecord) {table : List RecentEntry} (h : RecentRight table) :
    RecentRight (recentSuppress r table) := by
  unfold recentSuppress
  split
  · exact h
  · next e found =>
    obtain ⟨short, distinct⟩ := h
    have same : e.code = r.code := by simpa using List.find?_some found
    have fewer : (table.filter fun e' => decide (e'.code ≠ r.code)).length < table.length :=
      List.length_filter_lt_length_iff_exists.mpr ⟨e, List.mem_of_find?_eq_some found, by simp [same]⟩
    refine ⟨?_, nodup_code_front distinct same⟩
    rw [List.length_cons]
    omega

/-! ### Fault Records (R170, R171) -/

theorem faultRight_take (kind : FaultKind) (source : FaultSource) (time : Clock) (detail : Nat) (r : FaultRecord) :
    FaultRight (r.take kind source time detail) := by
  unfold FaultRecord.take
  split
  · next locked => exact ⟨Nat.min_le_right .., fun unlocked => absurd (locked.symm.trans unlocked) (by decide)⟩
  · exact ⟨Nat.zero_le _, fun unlocked => nomatch unlocked⟩

theorem faultRight_zeroed : FaultRight {} := ⟨Nat.zero_le _, fun _ => rfl⟩

/-! ### Records (R115) -/

/-- A record whose body has at most 55 bytes holds 1 to 4 slots (Table 7-1). -/
theorem recordFits_of_length {b : RecBody} (h : (recordBody b).length ≤ 55) : RecordFits b := by
  simp only [RecordFits, recordSlots, slotsFor, recordLength, Config.slotBytes]
  omega

/-- A body whose size its kind alone gives (Table 7-1). -/
def FixedBody : RecBody → Prop
  | .scan .. | .scannerReply .. => False
  | _ => True

theorem recordFits_fixed {b : RecBody} (h : FixedBody b) : RecordFits b := by
  cases b
  case scan | scannerReply => exact h.elim
  all_goals exact recordFits_of_length (by simp [recordBody, le16, le32])

/-- A scan of at most 48 code bytes. -/
theorem recordFits_scan (p : PortId) (index : Nat) {code : List Byte} (h : code.length ≤ 48) : RecordFits (.scan p index code) :=
  recordFits_of_length (by simp only [recordBody, List.length_cons]; omega)

/-- A reply gives the first 6 characters after its acknowledgement at most (R84). -/
theorem recordFits_reply (p : PortId) (bytes : List Byte) : RecordFits (.scannerReply p (bytes.take 6)) :=
  recordFits_of_length (by simp only [recordBody, List.length_cons, List.length_take]; omega)

/-! ### A scanner port (R64, R70, R75, R76) -/

/-- A port left with nothing held, in its slot or queued. -/
theorem portFits_empty {P : Port} (hbuf : P.buf = []) (hslot : P.slot = none) (htxq : P.txq = []) : PortFits P := by
  simp [PortFits, hbuf, hslot, htxq]

/-- An emptied buffer (R62, R69). -/
theorem portKept_toHunt (P : Port) : PortKept P (toHunt P) where
  fits := fun ⟨_, slot, txq⟩ => ⟨Nat.zero_le _, slot, txq⟩
  range := id

theorem portKept_toAssembly (P : Port) : PortKept P (toAssembly P) where
  fits := fun ⟨_, slot, txq⟩ => ⟨Nat.zero_le _, slot, txq⟩
  range := id

theorem portKept_beginNext (P : Port) : PortKept P (beginNext P) := by
  unfold beginNext
  split
  · next b rest _ hq =>
    refine ⟨fun ⟨buf, slot, txq⟩ => ⟨buf, slot, ?_⟩, id⟩
    rw [hq, List.length_cons] at txq
    exact Nat.le_of_succ_le txq
  · exact .refl _

/-- Bytes joining the transmit queue within its room. -/
theorem PortKept.queued {P : Port} {bytes : List TxByte} (h : P.txq.length ≤ 8 → P.txq.length + bytes.length ≤ 8) :
    PortKept P { P with txq := P.txq ++ bytes } where
  fits := fun ⟨buf, slot, txq⟩ => ⟨buf, slot, by rw [List.length_append]; exact h txq⟩
  range := id

theorem portKept_tonePort (tone : OptByte) (P : Port) : PortKept P (tonePort tone P) := by
  rw [tonePort_eq, toned]
  split
  · next room => exact (PortKept.queued (bytes := [{ value := tone.value }]) fun _ => room.2).trans (portKept_beginNext _)
  · exact .refl _

theorem portKept_slotEmptied (P : Port) : PortKept P { P with slot := none } where
  fits := fun ⟨buf, _, txq⟩ => ⟨buf, nofun, txq⟩
  range := id

/-- A record that finishes: its tone byte queued if the queue has room, its slot empty (R105, R106). -/
theorem portKept_finished (tone : OptByte) (P : Port) : PortKept P { toned tone P with slot := none } := by
  rw [← tonePort_eq]
  exact (portKept_tonePort tone P).trans (portKept_slotEmptied _)

theorem length_commandBytes (bytes : List Byte) (flag : Bool) : (commandBytes bytes flag).length = bytes.length := by
  cases bytes with
  | nil => rfl
  | cons b rest => simp [commandBytes_eq (List.cons_ne_nil b rest)]

/-- An accepted SCANNER_SEND has room in the queue (R80). -/
theorem portKept_sendPort {P : Port} {bytes : List Byte} (h : bytes.length ≤ txFree P) (flag : Bool) :
    PortKept P (sendPort bytes flag P) := by
  have room : P.txq.length ≤ 8 → P.txq.length + (commandBytes bytes flag).length ≤ 8 := fun _ => by
    rw [length_commandBytes]
    simp only [txFree, Config.txQueueBytes] at h
    omega
  have joined : ∀ e, PortKept P { P with txq := P.txq ++ commandBytes bytes flag, expect := e } := fun _ =>
    ⟨(PortKept.queued room).fits, id⟩
  exact (joined _).trans (portKept_beginNext _)

theorem txFree_of_sendRefusal_none {L : Lane} {p : PortId} {n : Nat} {flag : Bool} (h : sendRefusal L p n flag = none) :
    n ≤ txFree (L.port p) := by
  unfold sendRefusal at h
  dsimp only at h
  split_ifs at h with _ _ busy
  exact Nat.not_lt.mp fun full => busy (.inl full)

theorem portKept_byteSent (now : Nat) (P : Port) : PortKept P (byteSent now P) := by
  unfold byteSent
  split
  · exact .refl _
  · have begun := portKept_beginNext { P with tx := none }
    dsimp only
    split
    · exact ⟨begun.fits, begun.range⟩
    · exact ⟨begun.fits, begun.range⟩

theorem portKept_endExpectation (P : Port) : PortKept P (endExpectation P) where
  fits := fun ⟨buf, slot, txq⟩ => ⟨buf, slot, by simpa [endExpectation, unmark] using txq⟩
  range := id

theorem portKept_startPort (P : Port) : PortKept P (startPort P) := by
  rw [startPort_eq]
  exact ⟨fun _ => portFits_empty rfl rfl rfl, id⟩

theorem portKept_stopPort (P : Port) : PortKept P (stopPort P) where
  fits _ := portFits_empty rfl rfl rfl
  range := id

/-- A byte appended to a buffer with room for it (R64). -/
theorem portKept_appendByte (now : Nat) (v : Byte) (bad : Bool) {P : Port} (h : P.buf.length < 48) :
    PortKept P (appendByte now v bad P) where
  fits := fun ⟨_, slot, txq⟩ => ⟨by rw [appendByte_eq, List.length_append]; exact h, slot, txq⟩
  range := id

/-- The bytes that a port has collected become the record of its slot (R69, R70). -/
theorem portKept_slotFilled {P : Port} (h : P.buf ≠ []) (damaged : Bool) (time : Clock) :
    PortKept P { toHunt P with slot := some { code := P.buf, damaged := damaged, time := time } } where
  fits := fun ⟨buf, _, txq⟩ => ⟨Nat.zero_le _, fun r hr => by
    cases hr
    exact ⟨List.length_pos_iff.mpr h, buf⟩, txq⟩
  range := id

/-! ### The settings (R8, R59, R93, R142, R143) -/

/-- The staged set becomes the active one (R143). -/
theorem drawerInRange_staged {D : Drawer} (h : DrawerInRange D) :
    TimingInRange D.staged ∧ TimingInRange D.staged ∧ 5 ≤ D.debounce ∧ D.debounce ≤ 100 := by
  obtain ⟨staged, -, debounce⟩ := h
  exact ⟨staged, staged, debounce⟩

/-- A new lock position holds or resumes an open timer, and sets nothing (R153). -/
theorem drawerInRange_pauseOpen (now : Nat) (paused : Bool) {D : Drawer} (h : DrawerInRange D) :
    DrawerInRange (pauseOpen now paused D) := by
  unfold pauseOpen
  split <;> exact h

/-- A change of the raw reading moves a measurement alone (R145). -/
theorem drawerInRange_rawChanged (now : Nat) {D : Drawer} (h : DrawerInRange D) : DrawerInRange (rawChanged now D) :=
  ite_of_both h (ite_of_both h h)

/-- A clamped retry period, raised above a kick width of at most 250 ms (R142). -/
theorem retryPeriod_inRange {width : Nat} (h : width ≤ 250) (period : Nat) :
    let raised := if clamp 100 2000 period ≤ width then clamp 100 2000 (width + 20) else clamp 100 2000 period
    100 ≤ raised ∧ raised ≤ 2000 ∧ width < raised := by
  unfold clamp
  dsimp only
  split <;> omega

/-- Clamped timing fields are within Table 8-1 (R142). -/
theorem timingInRange_clampTiming (t : Timing) : TimingInRange (clampTiming t) := by
  obtain ⟨low, high, longer⟩ := retryPeriod_inRange (clamp_le (by decide) t.width : clamp 20 250 t.width ≤ 250) t.retryPeriod
  have alarm : clampAlarm t.alarm = 0 ∨ 5 ≤ clampAlarm t.alarm ∧ clampAlarm t.alarm ≤ 600 := by
    unfold clampAlarm clamp
    split <;> omega
  exact ⟨le_clamp .., clamp_le (by decide) _, low, high, longer, le_clamp .., clamp_le (by decide) _, alarm⟩

theorem drawerInRange_writeDrawer (now : Nat) (given : Timing) (high : Bool) (debounce : Nat) (on : Bool) {L : Lane}
    (h : DrawerInRange L.drawer) :
    DrawerInRange (writeDrawer now (clampTiming given) high (clamp 5 100 debounce) on L).drawer := by
  obtain ⟨-, active, -⟩ := h
  have written : ∀ high, DrawerInRange { L.drawer with
      staged := clampTiming given, active := if timingAtOnce L then clampTiming given else L.drawer.active
      openHigh := high, debounce := clamp 5 100 debounce, localKick := on } := fun _ =>
    ⟨timingInRange_clampTiming _, ite_of_both (timingInRange_clampTiming _) active, le_clamp .., clamp_le (by decide) _⟩
  exact ite_of_both (P := DrawerInRange) (drawerInRange_rawChanged now (written high)) (written high)

theorem portInRange_clampPort {c : PortConfig} (h : c.rate ≤ 7) : PortInRange (clampPort c) := by
  refine ⟨h, ?_, le_clamp .., clamp_le (by decide) _⟩
  simp only [clampPort, clamp]
  split <;> omega

/-- A rate code that PORT_CONFIG takes is defined (R57). -/
theorem rate_le_of_portGiven {body : List Byte} {c : PortConfig} (h : portGiven body = some c) : c.rate ≤ 7 := by
  have defined : ¬PortFieldUndefined body := fun undefined => by
    rw [portGiven_undefined undefined] at h
    cases h
  obtain rfl := portGiven_eq_some h
  unfold PortFieldUndefined at defined
  show u8 body 3 ≤ 7
  omega

theorem symInRange_symStored (body : List Byte) (j : Nat) : SymInRange (symStored body j) := by
  unfold symStored
  split
  · exact ⟨Nat.le_refl _, by decide, Nat.le_refl _⟩
  · simp only [SymInRange, symLengths]
    omega

/-- The filter as at power-on (R92, R94). -/
theorem filterInRange_default {s : State} (htable : s.symbology = Vector.replicate 8 {}) (hsame : s.sameWindow = 500)
    (hcross : s.crossWindow = 800) : FilterInRange s := by
  refine ⟨fun i => ?_, by omega, by omega⟩
  rw [htable, Fin.getElem_fin, Vector.getElem_replicate]
  exact ⟨Nat.le_refl _, by decide, Nat.le_refl _⟩

theorem laneInRange_default : LaneInRange {} := by unfold LaneInRange; decide

theorem portInRange_default : PortInRange {} := by unfold PortInRange; decide

theorem drawerInRange_default : DrawerInRange {} := by unfold DrawerInRange TimingInRange; decide

/-- A lane section at power-on reset has its defaults (R187, Tables 1-7, 4-2, 8-1). -/
theorem valuesKept_resetLaneSection (L : Lane) : ValuesKept L (resetLaneSection L) where
  recent _ := ⟨Nat.zero_le _, List.nodup_nil⟩
  fault _ := faultRight_zeroed
  cfg _ := laneInRange_default
  portA := ⟨fun _ => portFits_empty rfl rfl rfl, fun _ => portInRange_default⟩
  portB := ⟨fun _ => portFits_empty rfl rfl rfl, fun _ => portInRange_default⟩
  drawer _ := drawerInRange_default
  lost _ := Nat.zero_le _
  queue _ _ hr := absurd hr List.not_mem_nil

/-- A lane section that STOP has halted: its losses counted, and nothing held (R3). -/
theorem valuesKept_haltedLane (L : Lane) : ValuesKept L (haltedLane L) := by
  have lost : L.lost ≤ 255 → (haltedLane L).lost ≤ 255 := fun short =>
    ite_of_both (P := (· ≤ 255)) short (Nat.min_le_right ..)
  unfold haltedLane loseTimes haltKeys clearKeymapUnit clearMatrix at *
  exact { ValuesKept.refl L with portA := portKept_stopPort _, portB := portKept_stopPort _, lost := lost }

/-! ### What the Code Filter does to a lane section (R105 to R107) -/

theorem valuesKept_acceptLane (p : PortId) (r : SlotRecord) (L : Lane) : ValuesKept L (acceptLane p r L) := by
  rw [acceptLane_eq]
  refine ValuesKept.trans ?_ (.modPort (portKept_finished ..))
  exact { ValuesKept.refl L with recent := recentRight_accept p r }

theorem valuesKept_rejectLane (p : PortId) (L : Lane) : ValuesKept L (rejectLane p L) := by
  rw [rejectLane_eq]
  refine ValuesKept.trans ?_ (.modPort (portKept_finished ..))
  exact .of_view rfl

theorem valuesKept_suppressLane (p : PortId) (r : SlotRecord) (cross : Bool) (L : Lane) :
    ValuesKept L (suppressLane p r cross L) := by
  rw [suppressLane_eq]
  refine ValuesKept.trans ?_ (.modPort (portKept_slotEmptied _))
  exact { ValuesKept.refl L with recent := recentRight_suppress r }

/-! ### Work in the part -/

/-- The lane sections and the stored values of the device section. -/
def sharedView (s : State) := ((s.lanes, s.area), (s.badFrames, s.overruns), s.symbology, s.sameWindow, s.crossWindow)

namespace StoredKept

variable {n : Nat} {s t u : State}

theorem refl (n : Nat) (s : State) : StoredKept n s s where
  lanes _ := .refl _
  area := Nat.le_max_left ..
  counts := id
  filter := id

theorem trans (h : StoredKept n s t) (h' : StoredKept n t u) : StoredKept n s u where
  lanes l := (h.lanes l).trans (h'.lanes l)
  area := by
    have := h.area
    have := h'.area
    omega
  counts := h'.counts ∘ h.counts
  filter := h'.filter ∘ h.filter

/-- Changes that leave the lane sections as they are. -/
theorem device (h : StoredKept n s t) (lanes : u.lanes = t.lanes) (area : u.area.length ≤ max t.area.length n)
    (counts : CountsFit t → CountsFit u) (filter : FilterInRange t → FilterInRange u) : StoredKept n s u :=
  h.trans ⟨fun l => by rw [State.lane, State.lane, lanes]; exact .refl _, area, counts, filter⟩

/-- Changes of the part in no stored value. -/
theorem aside (h : StoredKept n s t) (e : sharedView u = sharedView t) : StoredKept n s u := by
  simp only [sharedView, Prod.mk.injEq] at e
  obtain ⟨⟨hlanes, harea⟩, ⟨hbad, hoverruns⟩, htable, hsame, hcross⟩ := e
  refine h.device hlanes (by rw [harea]; exact Nat.le_max_left ..) ?_ ?_
  · rw [CountsFit, CountsFit, hbad, hoverruns]; exact id
  · rw [FilterInRange, FilterInRange, htable, hsame, hcross]; exact id

theorem change (h : StoredKept n s t) {l : LaneId} {f : Lane → Lane} (hf : ValuesKept (t.lane l) (f (t.lane l))) :
    StoredKept n s (t.modLane l f) :=
  h.trans
    { StoredKept.refl n t with
      lanes := fun k => by
        by_cases e : k = l
        · subst e; rw [State.lane_modLane_same]; exact hf
        · rw [State.lane_modLane_other _ _ e]; exact .refl _ }

/-- Every lane section changed, in no stored value. -/
theorem mapLanes (h : StoredKept n s t) {g : LaneId → Lane → Lane} (hg : ∀ k L, storedView (g k L) = storedView L) :
    StoredKept n s (t.mapLanes g) :=
  h.trans { StoredKept.refl n t with lanes := fun k => by rw [State.lane_mapLanes]; exact .of_view (hg ..) }

theorem modLane (h : StoredKept n s t) {l : LaneId} {f : Lane → Lane}
    (e : storedView (f (t.lane l)) = storedView (t.lane l)) : StoredKept n s (t.modLane l f) :=
  h.change (.of_view e)

theorem modPort (h : StoredKept n s t) {l : LaneId} {p : PortId} {f : Port → Port}
    (hf : PortKept (t.port l p) (f (t.port l p))) : StoredKept n s (t.modPort l p f) :=
  h.change (.modPort hf)

theorem newDrawer (h : StoredKept n s t) {l : LaneId} {f : Lane → Drawer}
    (hf : DrawerInRange (t.lane l).drawer → DrawerInRange (f (t.lane l))) :
    StoredKept n s (t.modLane l fun L => { L with drawer := f L }) :=
  h.change { ValuesKept.refl _ with drawer := hf }

theorem modDrawer (h : StoredKept n s t) {l : LaneId} {f : Drawer → Drawer}
    (hf : DrawerInRange (t.lane l).drawer → DrawerInRange (f (t.lane l).drawer)) : StoredKept n s (t.modDrawer l f) :=
  h.newDrawer hf

theorem recompute (h : StoredKept n s t) (old : State) : StoredKept n s (recompute old t) :=
  h.mapLanes fun k L => by simp [storedView]

/-- The end of an event writes no stored value but the HOLD outputs (log entry 13). -/
theorem settle (h : StoredKept n s t) : StoredKept n s (settle t) := by
  refine h.trans { StoredKept.refl n t with lanes := fun k => ?_ }
  rw [lane_settle]
  exact { ValuesKept.refl _ with portA := ⟨id, id⟩, portB := ⟨id, id⟩ }

/-! #### Offers, flags, counts and faults -/

theorem admission (h : StoredKept n s t) {l : LaneId} {r : Rec} (hr : LaneFits (t.lane l) → RecordFits r.body) :
    StoredKept n s (admitRecord l r t) := by
  have joined : ValuesKept (t.lane l) (joinQueue r (t.lane l)) :=
    { ValuesKept.refl _ with
      lost := fun _ => Nat.zero_le _
      queue := fun hL r' hr' => by
        obtain old | new := List.mem_append.mp hr'
        · exact hL.queue r' old
        · rw [List.mem_singleton.mp new]; exact hr hL }
  exact (h.change joined).recompute t

theorem lose (h : StoredKept n s t) {l : LaneId} : StoredKept n s (lose l t) :=
  h.change { ValuesKept.refl _ with lost := fun _ => Nat.min_le_right .. }

theorem offerFitting (h : StoredKept n s t) {l : LaneId} {b : RecBody} {f : RecFlags} (hb : RecordFits b) :
    StoredKept n s (offer l b f t) := by
  obtain ⟨_, e⟩ | ⟨_, e⟩ := offer_cases l b f t
  · exact e ▸ h.admission fun _ => hb
  · exact e ▸ h.lose

theorem offer (h : StoredKept n s t) {l : LaneId} {b : RecBody} {f : RecFlags} (hb : FixedBody b) :
    StoredKept n s (offer l b f t) := h.offerFitting (recordFits_fixed hb)

theorem offerReply (h : StoredKept n s t) {l : LaneId} {p : PortId} {bytes : List Byte} {f : RecFlags} :
    StoredKept n s (Machine.offer l (.scannerReply p (bytes.take 6)) f t) := h.offerFitting (recordFits_reply p bytes)

theorem raise (h : StoredKept n s t) {l : LaneId} {f : Byte} : StoredKept n s (raise l f t) := h.modLane rfl

theorem count (h : StoredKept n s t) {l : LaneId} {c : Counter} : StoredKept n s (count l c t) := h.modLane rfl

theorem offerFault (h : StoredKept n s t) {l : LaneId} {kind : FaultKind} {src : FaultSource} {d : Nat} :
    StoredKept n s (offerFault l kind src d t) :=
    h.change { ValuesKept.refl _ with fault := fun _ => faultRight_take .. }

/-! #### Screening attempts (R97) -/

/-- An attempt on a record that a slot holds: its code has the size of that slot (R70, R115). -/
theorem attemptRecord (h : StoredKept n s t) {l : LaneId} {p : PortId} {r : SlotRecord} {late : Bool}
    (hr : (t.port l p).slot = some r) : StoredKept n s (attemptRecord l p r late t).1 := by
  unfold Machine.attemptRecord
  split
  case h_1 => exact h.change (valuesKept_suppressLane ..)
  case h_2 index _ =>
    have stored : LaneFits (t.lane l) → RecordFits (.scan p index r.code) := fun hL => by
      obtain ⟨-, slot, -⟩ := hL.port p
      exact recordFits_scan p index (slot r hr).2
    split
    · exact (h.admission stored).change (valuesKept_acceptLane ..)
    · exact h
  case h_3 reason index _ =>
    split
    · exact (h.admission fun _ => recordFits_of_length (by simp [rejectRecord, recordBody])).change (valuesKept_rejectLane ..)
    · exact h

theorem attempt (h : StoredKept n s t) {l : LaneId} {late : Bool} : StoredKept n s (attempt l late t).1 := by
  unfold Machine.attempt
  split
  · exact h
  · split
    · exact h
    · next p r head =>
      refine h.attemptRecord ?_
      simp only [headOf, Option.bind_eq_some_iff, Option.map_eq_some_iff, Prod.mk.injEq] at head
      obtain ⟨_, -, _, held, rfl, rfl⟩ := head
      exact held

theorem attemptChain (h : StoredKept n s t) {l : LaneId} {late : Bool} : StoredKept n s (attemptChain l late t) :=
  ite_of_both h.attempt.attempt h.attempt

theorem clearRecent (h : StoredKept n s t) {l : LaneId} : StoredKept n s (clearRecent l t) := by
  have emptied : StoredKept n s (t.modLane l recentEmptied) :=
    h.change { ValuesKept.refl _ with recent := fun _ => ⟨Nat.zero_le _, List.nodup_nil⟩ }
  exact emptied.attemptChain

/-! #### A sample pass (R20) -/

theorem localKick (h : StoredKept n s t) {l : LaneId} : StoredKept n s (localKick l t) := by
  unfold Machine.localKick
  split
  · exact h
  · exact h.modDrawer id

theorem classAction (h : StoredKept n s t) {l : LaneId} {cls : KeyClass} : StoredKept n s (classAction l cls t) := by
  cases cls with
  | drawer => exact ite_of_both h.localKick h
  | clearRecent => exact h.clearRecent
  | ignore | normal | shift | lockContact => exact h

theorem press (h : StoredKept n s t) {l : LaneId} {p : Nat} : StoredKept n s (press l p t) := by
  have joined : ∀ k, StoredKept n s (t.modLane l fun L => { L with held := L.held ++ [k] }) := fun _ => h.modLane rfl
  unfold Machine.press
  split
  · unfold pressKey
    exact (((joined (keyEntry t.elapsed (t.lane l) p)).offer (by trivial)).count.modLane rfl).classAction
  · exact joined _

theorem release (h : StoredKept n s t) {l : LaneId} {p : Nat} : StoredKept n s (release l p t) := by
  unfold Machine.release
  split
  · exact h
  · exact (ite_of_both (P := StoredKept n s) (h.offer (by trivial)) h).modLane rfl

theorem visit (h : StoredKept n s t) {l : LaneId} {closed : BitVec 128} {p : Nat} : StoredKept n s (visit l closed t p) := by
  have moved : ∀ k, StoredKept n s (t.modLane l fun L => { L with keys := L.keys.setIfInBounds p k }) := fun _ => h.modLane rfl
  refine ite_of_both h ?_
  unfold handOver
  split
  · exact moved _
  · exact (moved _).press
  · exact (moved _).release
  · exact (moved _).count

theorem walk (h : StoredKept n s t) {l : LaneId} {closed : BitVec 128} : StoredKept n s (walk l closed t) := by
  have visits : ∀ (ps : List Nat) {u : State}, StoredKept n s u → StoredKept n s (ps.foldl (Machine.visit l closed) u) := by
    intro ps
    induction ps with
    | nil => exact fun h => h
    | cons p ps ih => exact fun h => ih h.visit
  exact visits _ h

theorem ghostAnalysis (h : StoredKept n s t) {l : LaneId} {closed : BitVec 128} : StoredKept n s (ghostAnalysis l closed t) := by
  have marked : ∀ g, StoredKept n s (t.modLane l fun L => { L with ghost := g }) := fun _ => h.modLane rfl
  unfold Machine.ghostAnalysis
  dsimp only
  split
  · exact marked false
  · exact ite_of_both h (marked true).count.offerFault

theorem defineLock (h : StoredKept n s t) {l : LaneId} {new : LockPos} : StoredKept n s (defineLock l new t) := by
  cases new with
  | index i => exact ite_of_both h ((h.offer (by trivial)).raise.modLane rfl)
  | inTransit | noLock => exact h

theorem lockNotice (h : StoredKept n s t) {l : LaneId} : StoredKept n s (lockNotice l t) := by
  have located : StoredKept n s (t.modLane l fun L => { L with lock := computeLock (t.lane l) }) := h.modLane rfl
  have defined := located.defineLock (l := l) (new := computeLock (t.lane l))
  unfold Machine.lockNotice
  dsimp only
  split
  · exact defined
  · exact defined.attemptChain.newDrawer (drawerInRange_pauseOpen _ _)

theorem repeatNotice (h : StoredKept n s t) {l : LaneId} {high : Bool} : StoredKept n s (repeatNotice l high t) := by
  obtain e | ⟨r, k, _, _, _, e⟩ := repeatNotice_cases l high t
  · rwa [e]
  · rw [e, repeatFalls]
    split
    · exact (h.modLane rfl).count
    · exact (h.modLane rfl).offer (by trivial)

theorem samplePass (h : StoredKept n s t) {l : LaneId} {closed : BitVec 128} : StoredKept n s (samplePass l closed t) := by
  have begun : StoredKept n s (t.modLane l (nextPass closed)) := h.modLane rfl
  unfold Machine.samplePass passWork notice
  split
  · exact begun.ghostAnalysis.walk.lockNotice.repeatNotice
  · exact h

/-! #### A scanner port (R60 to R71, R84 to R88) -/

/-- A character is appended to a buffer with room for it (R64, R65). -/
theorem appendChar (h : StoredKept n s t) {l : LaneId} {p : PortId} {c : ScanChar} (room : (t.port l p).buf.length < 48) :
    StoredKept n s (appendChar l p c t) := by
  have appended : ∀ v bad, StoredKept n s (t.modPort l p (appendByte t.elapsed v bad)) := fun v bad =>
    h.modPort (portKept_appendByte _ v bad room)
  unfold Machine.appendChar
  dsimp only
  split
  · exact appended _ _
  · exact ite_of_both (appended _ _) (appended _ _).offerFault

theorem deliverReply (h : StoredKept n s t) {l : LaneId} {p : PortId} {code : List Byte} {damaged : Bool} :
    StoredKept n s (deliverReply l p code damaged t) := by
  have taken : StoredKept n s (takeReply l p code damaged t) :=
    h.offerReply.raise.modPort (portKept_endExpectation _)
  unfold Machine.deliverReply
  split
  · exact taken
  · exact taken
  · exact h.offerFault.modPort ⟨id, id⟩
  · exact h.offerFault

theorem toHunt (h : StoredKept n s t) {l : LaneId} {p : PortId} : StoredKept n s (t.modPort l p toHunt) :=
  h.modPort (portKept_toHunt _)

theorem toAssembly (h : StoredKept n s t) {l : LaneId} {p : PortId} : StoredKept n s (t.modPort l p toAssembly) :=
  h.modPort (portKept_toAssembly _)

/-- A completed record is one that a buffer held (R69, R70). -/
theorem complete (h : StoredKept n s t) {l : LaneId} {p : PortId} (hbuf : (t.port l p).buf ≠ []) :
    StoredKept n s (complete l p t) := by
  refine ite_of_both h.toHunt.deliverReply ?_
  unfold enterSlot
  split
  · exact h.toHunt.offerFault.lose
  · have filled : ∀ damaged time, StoredKept n s ((t.modPort l p Machine.toHunt).modPort l p fun P =>
        { P with slot := some { code := (t.port l p).buf, damaged := damaged, time := time } }) := fun damaged time => by
      rw [State.modPort_modPort]
      exact h.modPort (portKept_slotFilled hbuf damaged time)
    exact ite_of_both (filled _ _).attemptChain (filled _ _)

theorem huntChar (h : StoredKept n s t) {l : LaneId} {p : PortId} {c : ScanChar} : StoredKept n s (huntChar l p c t) := by
  have begun : StoredKept n s (t.modPort l p fun P => startGap t.elapsed (Machine.toAssembly P)) :=
    h.modPort ((portKept_toAssembly _).trans ⟨id, id⟩)
  have room : ((t.modPort l p Machine.toAssembly).port l p).buf.length < 48 := by
    rw [port_modPort_same]
    exact Nat.zero_lt_succ _
  exact ite_of_both (ite_of_both begun h) (ite_of_both h (h.toAssembly.appendChar room))

theorem assemblyChar (h : StoredKept n s t) {l : LaneId} {p : PortId} {c : ScanChar} : StoredKept n s (assemblyChar l p c t) := by
  unfold Machine.assemblyChar
  dsimp only
  split
  · split
    · exact h.toHunt
    · next held => exact h.complete (by simpa using held)
  · split
    · exact h.offerFault.modPort ((portKept_toHunt _).trans ⟨id, id⟩)
    · next room => exact h.appendChar (Nat.lt_of_not_le room)

theorem receiveChar (h : StoredKept n s t) {l : LaneId} {p : PortId} {c : ScanChar} : StoredKept n s (receiveChar l p c t) := by
  have marked : StoredKept n s (t.modPort l p clearMarks) := h.modPort ⟨id, id⟩
  refine ite_of_both marked ?_
  split
  · exact marked
  · exact marked.huntChar
  · exact marked.assemblyChar
  · exact ite_of_both marked.toHunt (marked.modPort ⟨id, id⟩)

theorem gapExpires (h : StoredKept n s t) {l : LaneId} {p : PortId} : StoredKept n s (gapExpires l p t) :=
  ite_of_both (ite_of_both (P := StoredKept n s) h.offerFault h).toHunt h

theorem replyExpires (h : StoredKept n s t) {l : LaneId} {p : PortId} : StoredKept n s (replyExpires l p t) :=
  ite_of_both ((h.offer (by trivial)).offerFault.raise.modPort ⟨id, id⟩) h

theorem takeGrowth (h : StoredKept n s t) {l : LaneId} : StoredKept n s (takeGrowth l t) := by
  have taken : StoredKept n s (t.modLane l growthTaken) := h.modLane rfl
  exact ite_of_both taken.attemptChain h

/-! #### The drawer (R145 to R156) -/

/-- An opening starts the open timer, and sets nothing (R146, R151, R152). -/
theorem opened (h : StoredKept n s t) {l : LaneId} {now : Nat} :
    StoredKept n s (t.modLane l fun L => { L with drawer := enterOpen now (alarmPaused L) L.drawer }) := h.newDrawer id

/-- At SHUT the staged set becomes the active one (R143). -/
theorem shut (h : StoredKept n s t) {l : LaneId} : StoredKept n s (t.modDrawer l enterShut) :=
  h.modDrawer drawerInRange_staged

theorem openAtStart (h : StoredKept n s t) {l : LaneId} : StoredKept n s (openAtStart l t) := by
  unfold Machine.openAtStart
  exact (h.offer (by trivial)).opened

theorem openCommanded (h : StoredKept n s t) {l : LaneId} : StoredKept n s (openCommanded l t) := by
  unfold Machine.openCommanded
  exact (h.offer (by trivial)).count.opened

theorem openUncommanded (h : StoredKept n s t) {l : LaneId} : StoredKept n s (openUncommanded l t) := by
  unfold Machine.openUncommanded
  exact (h.offer (by trivial)).count.count.raise.opened

theorem closeDrawer (h : StoredKept n s t) {l : LaneId} : StoredKept n s (closeDrawer l t) := by
  unfold Machine.closeDrawer
  exact (h.offer (by trivial)).shut

theorem debounced (h : StoredKept n s t) {l : LaneId} : StoredKept n s (debounced l t) := by
  have ended : StoredKept n s (t.modDrawer l endMeasure) := h.modDrawer id
  unfold Machine.debounced
  dsimp only
  split
  · exact ended.shut
  · exact ended.openAtStart
  · exact ended.openUncommanded
  · exact ended.openCommanded
  · exact ended.openCommanded
  · exact ended.closeDrawer
  · exact ended.closeDrawer
  all_goals exact ended

theorem takeDebounced (h : StoredKept n s t) {l : LaneId} : StoredKept n s (takeDebounced l t) := ite_of_both h.debounced h

theorem pulseExpires (h : StoredKept n s t) {l : LaneId} : StoredKept n s (pulseExpires l t) := ite_of_both (h.modDrawer id) h

theorem retryExpires (h : StoredKept n s t) {l : LaneId} : StoredKept n s (retryExpires l t) :=
  ite_of_both h (ite_of_both (h.modDrawer id) (h.shut.offer (by trivial)).offerFault.count.raise)

theorem openExpires (h : StoredKept n s t) {l : LaneId} : StoredKept n s (openExpires l t) :=
  ite_of_both ((h.offer (by trivial)).raise.modDrawer id) h

theorem abortKick (h : StoredKept n s t) {l : LaneId} : StoredKept n s (abortKick l t) :=
  ite_of_both ((h.modDrawer id).offer (by trivial)).raise.shut h

theorem assertInhibit (h : StoredKept n s t) {order : List LaneId} : StoredKept n s (assertInhibit order t) := by
  have aborts : ∀ (ls : List LaneId) {u : State}, StoredKept n s u →
      StoredKept n s (ls.foldl (fun t l => Machine.abortKick l t) u) := by
    intro ls
    induction ls with
    | nil => exact fun h => h
    | cons l ls ih => exact fun h => ih h.abortKick
  exact ite_of_both h (aborts _ (h.aside rfl))

theorem senseLevel (h : StoredKept n s t) {l : LaneId} {high : Bool} : StoredKept n s (senseLevel l high t) :=
  h.change (ite_of_both (P := ValuesKept (t.lane l)) (.of_view rfl)
    { ValuesKept.refl _ with drawer := fun hD => ite_of_both (P := DrawerInRange) (drawerInRange_rawChanged _ hD) hD })

/-! #### START, STOP, RESET_LANE and the resets -/

/-- START leaves every port with nothing held and every setting as it is (R2). -/
theorem startLane (h : StoredKept n s t) {l : LaneId} : StoredKept n s (t.modLane l (startLane t.elapsed)) :=
  h.change { ValuesKept.refl _ with portA := portKept_startPort _, portB := portKept_startPort _ }

theorem stopLane (h : StoredKept n s t) {l : LaneId} : StoredKept n s (stopLane l t) := by
  have halted : StoredKept n s (t.modLane l haltedLane) := h.change (valuesKept_haltedLane _)
  rw [stopLane_eq]
  refine StoredKept.change ?_ { ValuesKept.refl _ with drawer := drawerInRange_staged }
  exact ite_of_both (P := StoredKept n s) (halted.offer (by trivial)) halted

theorem resetLane (h : StoredKept n s t) {l : LaneId} : StoredKept n s (Machine.recompute t (t.modLane l resetLane)) := by
  have cleared : ∀ L, ValuesKept L (Machine.resetLane L) := fun _ =>
    { ValuesKept.refl _ with
      recent := fun _ => ⟨Nat.zero_le _, List.nodup_nil⟩
      fault := fun _ => faultRight_zeroed
      portA := portKept_stopPort _
      portB := portKept_stopPort _
      drawer := drawerInRange_staged
      lost := fun _ => Nat.zero_le _
      queue := fun _ _ hr => absurd hr List.not_mem_nil }
  exact (h.change (cleared _)).recompute t

/-- The resets give every stored value as at power-on (R186, R187). -/
theorem resetAll (h : StoredKept n s t) (straps : BitVec 2) : StoredKept n s (resetAll straps t) := by
  refine h.trans
    { lanes := fun l => ?_
      area := Nat.zero_le _
      counts := fun _ => ⟨Nat.zero_le _, Nat.zero_le _⟩
      filter := fun _ => filterInRange_default rfl rfl rfl }
  rw [lane_resetAll]
  exact valuesKept_resetLaneSection _

end StoredKept

/-! ### The requests, block by block -/

/-- A request keeps every stored value right, and brings no frame into the holding area. -/
def KeepsStored (serve : Request) : Prop := ∀ body s, StoredKept 0 s (serve body s).1

/-- A request of a lane, of which its block may know the length of its body (R188). -/
theorem keepsStored_withLane {n : Nat} {serve : LaneId → Request}
    (h : ∀ l body s, body.length = n → StoredKept 0 s (serve l body s).1) : KeepsStored (withLane n serve) := by
  intro body s
  unfold withLane
  split
  · exact .refl 0 s
  · split
    · split
      · next hlen => exact h _ _ s hlen
      · exact .refl 0 s
    · exact .refl 0 s

theorem keepsStored_withScope {n : Nat} {serve : Scope → Request} (h : ∀ scope, KeepsStored (serve scope)) :
    KeepsStored (withScope n serve) := by
  intro body s
  obtain ⟨l, e⟩ | ⟨r, e⟩ := withScope_cases n serve body s
  · exact e ▸ h l body s
  · exact e ▸ .refl 0 s

theorem keepsStored_withLength {n : Nat} {serve : Request} (h : KeepsStored serve) : KeepsStored (withLength n serve) := by
  intro body s
  obtain e | ⟨r, e⟩ := withLength_cases n serve body s
  · exact e ▸ h body s
  · exact e ▸ .refl 0 s

namespace StoredKept

variable {s t : State}

/-- Either answer of a judgement. -/
theorem either {c : Prop} [Decidable c] {a b : State × List Byte} (ha : StoredKept 0 s a.1) (hb : StoredKept 0 s b.1) :
    StoredKept 0 s (if c then a else b).1 :=
  ite_of_both (P := fun out : State × List Byte => StoredKept 0 s out.1) ha hb

/-- A request that is refused where it is judged, and answered after its work otherwise. -/
theorem judged {c : Prop} [Decidable c] {r : Result} {b : State × List Byte} (hb : StoredKept 0 s b.1) :
    StoredKept 0 s (if c then refuse r s else b).1 := either (.refl 0 s) hb

theorem accepted (h : StoredKept 0 s t) (r : Result) : StoredKept 0 s (accept r t).1 := h

theorem answered (h : StoredKept 0 s t) (reply : List Byte) : StoredKept 0 s (t, reply).1 := h

theorem removeOldest (l : LaneId) (n : Nat) (s : State) : StoredKept 0 s (removeOldest l n s) := by
  have taken : StoredKept 0 s (s.modLane l fun L => { L with queue := L.queue.drop n }) :=
    (StoredKept.refl 0 s).change { ValuesKept.refl _ with queue := fun hL r hr => hL.queue r (List.mem_of_mem_drop hr) }
  exact ite_of_both (.refl 0 s) (taken.recompute s)

end StoredKept

theorem keepsStored_identify : KeepsStored serveIdentify := keepsStored_withLength fun _ s => .refl 0 s
theorem keepsStored_getTime : KeepsStored serveGetTime := keepsStored_withLength fun _ s => .refl 0 s
theorem keepsStored_setTime : KeepsStored serveSetTime := keepsStored_withLength fun _ s =>
  .judged ((StoredKept.refl 0 s).aside rfl)
theorem keepsStored_resetDevice : KeepsStored serveResetDevice := keepsStored_withLength fun _ s =>
  (StoredKept.refl 0 s).aside rfl

/-- A configuration is taken clamped (R8). -/
theorem keepsStored_laneConfig : KeepsStored serveLaneConfig := keepsStored_withLane fun l body s _ => by
  have configured : StoredKept 0 s (withConfig l (clampLane (laneGiven body)) s) :=
    (StoredKept.refl 0 s).change { ValuesKept.refl _ with cfg := fun _ => laneInRange_clampLane _ }
  exact .judged (.judged (.judged ((configured.recompute s).accepted _)))

theorem keepsStored_start : KeepsStored serveStart := keepsStored_withLane fun _ _ s _ =>
  .judged (((StoredKept.refl 0 s).startLane.offer (by trivial)).accepted _)
theorem keepsStored_stop : KeepsStored serveStop := keepsStored_withLane fun _ _ s _ =>
  .either (StoredKept.refl 0 s).stopLane (.refl 0 s)
theorem keepsStored_resetLane : KeepsStored serveResetLane := keepsStored_withLane fun _ _ s _ => (StoredKept.refl 0 s).resetLane

theorem keepsStored_linesSet : KeepsStored serveLinesSet := keepsStored_withLane fun _ _ s _ =>
  .judged (((StoredKept.refl 0 s).modLane rfl).accepted _)
theorem keepsStored_linesDir : KeepsStored serveLinesDir := keepsStored_withLane fun _ _ s _ =>
  .judged (((StoredKept.refl 0 s).modLane rfl).accepted _)
theorem keepsStored_linesRead (outside : Outside) : KeepsStored (serveLinesRead outside) := keepsStored_withLane fun _ _ s _ =>
  ((StoredKept.refl 0 s).modLane rfl).answered _

theorem keepsStored_keymapWrite : KeepsStored serveKeymapWrite := by
  intro body s
  unfold serveKeymapWrite
  refine .either ?_ (keepsStored_withLane (fun l body s _ => .judged ?_) body s)
  · split
    · exact .judged (.refl 0 s)
    · exact .refl 0 s
  · split
    · exact .refl 0 s
    · exact .judged (((StoredKept.refl 0 s).modLane rfl).accepted _)

theorem keepsStored_keymapRead : KeepsStored serveKeymapRead := keepsStored_withLane fun _ _ s _ => .judged (.refl 0 s)

/-- A port configuration is taken with a defined rate and its timeouts clamped (R57, R59). -/
theorem keepsStored_portConfig : KeepsStored servePortConfig := keepsStored_withLane fun l body s _ => by
  split
  · next given _ fields =>
    have configured : ∀ p, StoredKept 0 s (s.modPort l p fun P => { P with cfg := clampPort given }) := fun _ =>
      (StoredKept.refl 0 s).modPort ⟨id, fun _ => portInRange_clampPort (rate_le_of_portGiven fields)⟩
    exact .judged (.judged ((configured _).accepted _))
  · exact .refl 0 s

/-- The bytes of a command are as many as its count says, for which the queue has room (R80, R81). -/
theorem keepsStored_scannerSend : KeepsStored serveScannerSend := by
  intro body s
  unfold serveScannerSend
  refine .either ?_ (keepsStored_withLane (fun l body' s hlen => ?_) body s)
  · split
    · exact .judged (.refl 0 s)
    · exact .refl 0 s
  · split
    · exact .refl 0 s
    · refine .judged ?_
      split
      · exact .refl 0 s
      · next p _ _ taken =>
        have room : (body'.drop 4).length ≤ txFree ((s.lane l).port p) := by
          have := txFree_of_sendRefusal_none taken
          rw [List.length_drop]
          omega
        exact ((StoredKept.refl 0 s).modPort (portKept_sendPort room _)).accepted _

/-- The windows are taken clamped (R94). -/
theorem keepsStored_filterConfig : KeepsStored serveFilterConfig := keepsStored_withLength fun body s =>
  .judged ((StoredKept.refl 0 s).device rfl (Nat.le_max_left ..) id fun ⟨table, _, _⟩ =>
    ⟨table, clamp_le (by decide) _, clamp_le (by decide) _⟩)

/-- The entries of a SYMBOLOGY_WRITE are stored as `symStored` says, and the others kept (R93). -/
theorem keepsStored_symbologyWrite : KeepsStored serveSymbologyWrite := by
  intro body s
  refine .judged (.judged ?_)
  split
  · exact .refl 0 s
  · next entries given =>
    have good : ∀ j, j < u8 body 1 → ¬SymEntryBad body j := fun j hj bad => by
      rw [mapM_eq_none_of_mem (List.mem_range.mpr hj) (symEntryOf_bad bad)] at given
      cases given
    obtain rfl := Option.some.inj ((mapM_symEntryOf good).symm.trans given)
    have stored : ∀ i : Fin 8, SymInRange s.symbology[i] →
        SymInRange (writeSymbology s.symbology (u8 body 0) ((List.range (u8 body 1)).map (symStored body)))[i] := fun i old => by
      rw [getElem_symbologyWritten]
      exact ite_of_both (symInRange_symStored ..) old
    rw [List.map_map]
    exact (StoredKept.refl 0 s).device rfl (Nat.le_max_left ..) id fun ⟨table, windows⟩ =>
      ⟨fun i => stored i (table i), windows⟩

theorem keepsStored_forget : KeepsStored serveForget := keepsStored_withLane fun _ _ s _ => (StoredKept.refl 0 s).clearRecent
theorem keepsStored_fetch : KeepsStored serveFetch := keepsStored_withLane fun l _ s _ => .removeOldest l _ s
theorem keepsStored_purge : KeepsStored servePurge := keepsStored_withLane fun l _ s _ => .removeOldest l _ s

theorem keepsStored_drawerConfig : KeepsStored serveDrawerConfig := keepsStored_withLane fun l body s _ => by
  have written : ∀ high on, StoredKept 0 s (s.modLane l
      (writeDrawer s.elapsed (clampTiming (timingGiven body)) high (clamp 5 100 (u8 body 8)) on)) := fun high on =>
    (StoredKept.refl 0 s).newDrawer (drawerInRange_writeDrawer _ _ high _ on)
  exact .judged ((written _ _).takeDebounced.accepted _)

theorem keepsStored_kick : KeepsStored serveKick := keepsStored_withLane fun _ _ s _ => by
  split
  · exact .refl 0 s
  · exact ((StoredKept.refl 0 s).modDrawer id).accepted _

theorem keepsStored_status : KeepsStored serveStatus := keepsStored_withScope fun scope _ s => by
  cases scope with
  | lane l => exact ((StoredKept.refl 0 s).modLane rfl).answered _
  | device => exact (StoredKept.refl 0 s).aside rfl

theorem keepsStored_ackFlags : KeepsStored serveAckFlags := keepsStored_withScope fun scope _ s => by
  refine .judged ?_
  cases scope with
  | lane l => exact ((StoredKept.refl 0 s).modLane rfl).answered _
  | device => exact ite_of_both (P := StoredKept 0 s) ((StoredKept.refl 0 s).aside rfl) (.refl 0 s)

theorem keepsStored_attnMask : KeepsStored serveAttnMask := keepsStored_withScope fun scope _ s => by
  refine .judged ?_
  cases scope with
  | lane l => exact ((StoredKept.refl 0 s).modLane rfl).accepted _
  | device => exact (StoredKept.refl 0 s).aside rfl

/-- A Fault Record cleared is zeroed (R172). -/
theorem keepsStored_clearFault : KeepsStored serveClearFault := keepsStored_withLane fun l _ s _ => by
  have cleared : StoredKept 0 s (s.modLane l fun L => { L with fault := {} }) :=
    (StoredKept.refl 0 s).change { ValuesKept.refl _ with fault := fun _ => faultRight_zeroed }
  exact cleared.answered _

theorem keepsStored_latchCounters : KeepsStored serveLatchCounters := keepsStored_withLength fun _ s =>
  .judged ((StoredKept.refl 0 s).mapLanes fun _ L => ite_of_both (P := fun L' => storedView L' = storedView L) rfl rfl)

theorem keepsStored_readCounters : KeepsStored serveReadCounters := keepsStored_withLane fun _ _ s _ => by
  dsimp only
  split
  · exact ((StoredKept.refl 0 s).modLane rfl).answered _
  · exact .refl 0 s

theorem keepsStored_clearCounters : KeepsStored serveClearCounters := keepsStored_withLane fun _ _ s _ =>
  ((StoredKept.refl 0 s).modLane rfl).accepted _

theorem keepsStored_unknown : KeepsStored serveUnknown := fun _ s => .refl 0 s

/-- Every block of the dispatcher keeps every stored value right. -/
theorem keepsStored_served (outside : Outside) : ∀ serve ∈ servedBlocks outside, KeepsStored serve := by
  simp only [servedBlocks, List.forall_mem_cons]
  exact ⟨keepsStored_identify, keepsStored_getTime, keepsStored_setTime, keepsStored_resetDevice, keepsStored_laneConfig,
    keepsStored_start, keepsStored_stop, keepsStored_resetLane, keepsStored_linesSet, keepsStored_linesDir,
    keepsStored_linesRead outside, keepsStored_keymapWrite, keepsStored_keymapRead, keepsStored_portConfig,
    keepsStored_scannerSend, keepsStored_filterConfig, keepsStored_symbologyWrite, keepsStored_forget, keepsStored_fetch,
    keepsStored_purge, keepsStored_drawerConfig, keepsStored_kick, keepsStored_status, keepsStored_ackFlags,
    keepsStored_attnMask, keepsStored_clearFault, keepsStored_latchCounters, keepsStored_readCounters,
    keepsStored_clearCounters, keepsStored_unknown, nofun⟩

/-! ### Frames, commands and steps -/

namespace StoredKept

variable {s t : State}

theorem badFrameCounted (h : StoredKept 2 s t) : StoredKept 2 s (badFrameCounted t) :=
  h.device rfl (Nat.le_max_left ..) (fun ⟨_, overruns⟩ => ⟨Nat.min_le_right .., overruns⟩) id

/-- A frame that is served finds room in the holding area, which its own request does not fill (R181). -/
theorem request (h : StoredKept 2 s t) {outside : Outside} {kind : Byte} {body : List Byte} :
    StoredKept 2 s (goodFrame (requestOf outside kind) kind body t) := by
  have served := keepsStored_served outside _ (requestOf_mem outside kind) body t
  unfold goodFrame
  split
  · exact h
  · split
    · exact h.device rfl (Nat.le_max_left ..) (fun ⟨bad, _⟩ => ⟨bad, Nat.min_le_right ..⟩) id
    · next room =>
      refine h.trans { lanes := served.lanes, area := ?_, counts := served.counts, filter := served.filter }
      have := served.area
      simp only [Config.areaFrames] at room
      simp only [List.length_append, List.length_cons, List.length_nil]
      omega

theorem frameCompletes (h : StoredKept 2 s t) {outside : Outside} {kind : Byte} {body : List Byte} :
    StoredKept 2 s (frameCompletes (requestOf outside kind) kind body t) :=
  (h.aside (u := { lineHunt t with lineStart := false, lineDrop := false }) rfl).request

theorem takeChars (h : StoredKept 2 s t) {run : LineRun} : StoredKept 2 s (takeChars run t) := by
  have hunted : ∀ fuel chars u, StoredKept 2 s u → StoredKept 2 s (hunt run.outside fuel chars u) :=
    hunt_keeps (fun _ _ h => h.aside rfl) (fun _ h => h.badFrameCounted) fun _ _ _ h => h.request.settle
  have given := fun chars : List LineChar =>
    hunted chars.length chars { t with lineStart := false, lineDrop := false } (h.aside rfl)
  exact ite_of_both h ((given _).aside rfl)

theorem driveRows (h : StoredKept 2 s t) : StoredKept 2 s (driveRows t) :=
  h.mapLanes fun _ L => ite_of_both (P := fun L' => storedView L' = storedView L) rfl rfl

end StoredKept

/-- What every command does to the stored values before the outputs are judged. -/
theorem exec_storedKept (i : Instr) (s : State) : ∃ t, exec i s = done t ∧ StoredKept 2 s t := by
  have start := StoredKept.refl 2 s
  cases h : requestFrame i with
  | some frame =>
    obtain ⟨kind, body⟩ := frame
    obtain ⟨outside, e⟩ := exec_frame h s
    exact ⟨_, e, start.frameCompletes⟩
  | none =>
    cases i
    case badFrame run => exact ⟨_, rfl, start.takeChars⟩
    case gapLimitExpiry =>
      have hunts : StoredKept 2 s (lineHunt s) := start.aside rfl
      exact ⟨_, rfl, ite_of_both hunts.badFrameCounted start⟩
    case replySent =>
      exact ⟨_, rfl, start.device rfl (by rw [replyLeaves, List.length_drop]; omega) id id⟩
    case resetDeviceActs straps => exact ⟨_, rfl, ite_of_both (start.resetAll straps) start⟩
    case powerOnReset straps => exact ⟨_, rfl, start.resetAll straps⟩
    case samplePassEnd l closed => exact ⟨_, rfl, start.samplePass⟩
    case scannerCharacterReceived l p c => exact ⟨_, rfl, start.receiveChar⟩
    case gapTimerExpiry l p => exact ⟨_, rfl, start.gapExpires⟩
    case growthReport l => exact ⟨_, rfl, start.takeGrowth⟩
    case transmitByteSent l p => exact ⟨_, rfl, start.modPort (portKept_byteSent ..)⟩
    case replyTimerExpiry l p => exact ⟨_, rfl, start.replyExpires⟩
    case rawSensorChange l high => exact ⟨_, rfl, start.senseLevel⟩
    case debouncedChange l => exact ⟨_, rfl, start.takeDebounced⟩
    case pulseTimerExpiry l => exact ⟨_, rfl, start.pulseExpires⟩
    case retryTimerExpiry l => exact ⟨_, rfl, start.retryExpires⟩
    case openTimerExpiry l => exact ⟨_, rfl, start.openExpires⟩
    case inhNAsserted order => exact ⟨_, rfl, start.assertInhibit⟩
    case inhNReleased => exact ⟨_, rfl, start.aside rfl⟩
    case scannerStartBit l p => exact ⟨_, rfl, start.modPort ⟨id, id⟩⟩
    case systemLineStartBit => exact ⟨_, rfl, start.aside rfl⟩
    all_goals cases h

/-- The idle part moves no stored value. -/
theorem idle_storedKept (s : State) : StoredKept 2 s (idle s) := by
  have start := StoredKept.refl 2 s
  obtain ⟨-, e⟩ | ⟨-, -, e⟩ | ⟨-, -, e⟩ := idle_cases s <;> rw [e]
  · exact start.driveRows
  · exact start.aside rfl
  · exact start.aside rfl

/-- Every step keeps every stored value right. -/
theorem step_storedKept {s t : State} (h : step s = .next t) : StoredKept 2 s t := by
  unfold step at h
  split at h
  · cases h
    exact idle_storedKept s
  · rename_i i rest _
    obtain ⟨u, e, kept⟩ := exec_storedKept i { s with pending := rest }
    cases e.symm.trans h
    have taken : StoredKept 2 s { s with pending := rest } := (StoredKept.refl 2 s).aside rfl
    exact (taken.trans kept).settle

theorem StoredKept.recentLaw {s t : State} (h : StoredKept 2 s t) (hs : RecentLaw s) : RecentLaw t :=
  (recentLaw_iff t).mpr fun l => (h.lanes l).recent ((recentLaw_iff s).mp hs l)

theorem StoredKept.faultLaw {s t : State} (h : StoredKept 2 s t) (hs : FaultLaw s) : FaultLaw t :=
  (faultLaw_iff t).mpr fun l => (h.lanes l).fault ((faultLaw_iff s).mp hs l)

theorem StoredKept.sizeLaw {s t : State} (h : StoredKept 2 s t) (hs : SizeLaw s) : SizeLaw t := by
  obtain ⟨lanes, area, counts⟩ := (sizeLaw_iff s).mp hs
  have room : t.area.length ≤ 2 := h.area.trans (Nat.max_le.mpr ⟨area, Nat.le_refl _⟩)
  exact (sizeLaw_iff t).mpr ⟨fun l => (h.lanes l).fits (lanes l), room, h.counts counts⟩

theorem StoredKept.rangeLaw {s t : State} (h : StoredKept 2 s t) (hs : RangeLaw s) : RangeLaw t := by
  obtain ⟨lanes, filter⟩ := (rangeLaw_iff s).mp hs
  exact (rangeLaw_iff t).mpr ⟨fun l => (h.lanes l).settings (lanes l), h.filter filter⟩

/-- Settles O59. -/
theorem storedValueLawsKept : Obligations.StoredValueLawsKept :=
  ⟨⟨fun _ _ hs h => (step_storedKept h).recentLaw hs, fun _ _ hs h => (step_storedKept h).faultLaw hs⟩,
    fun _ _ hs h => (step_storedKept h).sizeLaw hs, fun _ _ hs h => (step_storedKept h).rangeLaw hs⟩

end Sys2Proof.Machine
end

section
/-! PROOFS. O54: the law of the Event Store (R121). A lane holds at most its reserve and its shared use, so the pool is never exceeded
while the reserves and the shared uses stay within it; the three limits that remain are those of R9. They are judged for a change
of one lane section, and the moves of the Event Store are such changes under a recompute. -/

namespace Sys2Proof.Machine

/-! ### The law as three limits -/

/-- The queue of a lane fills its reserve, and then uses the shared part (R119). -/
theorem occupancy_le_reserve_add_sharedUse (L : Lane) : occupancy L ≤ L.cfg.reserve + sharedUse L := by
  unfold sharedUse
  omega

/-- The occupancies are within the pool where the reserves and the shared uses are. -/
theorem sumLanes_occupancy_le (s : State) :
    sumLanes occupancy s ≤ sumLanes (fun L => L.cfg.reserve) s + sumLanes sharedUse s := by
  have part := fun l : LaneId => occupancy_le_reserve_add_sharedUse (s.lane l)
  have := part 0
  have := part 1
  have := part 2
  have := part 3
  simp only [sumLanes_eq]
  omega

/-- The law of the Event Store is the three limits that R9 names. -/
theorem storeLaw_iff (s : State) :
    StoreLaw s ↔ (∀ l : LaneId, occupancy (s.lane l) ≤ (s.lane l).cfg.cap) ∧ sumLanes (fun L => L.cfg.reserve) s ≤ 512 ∧
      sumLanes sharedUse s ≤ 512 - sumLanes (fun L => L.cfg.reserve) s := by
  refine ⟨fun ⟨caps, reserves, shared, _⟩ => ⟨caps, reserves, shared⟩, fun ⟨caps, reserves, shared⟩ =>
    ⟨caps, reserves, shared, ?_⟩⟩
  have := sumLanes_occupancy_le s
  omega

/-- The law reads the configurations and the queues alone. -/
theorem StoreLaw.congr {s t : State} (h : StoreLaw s)
    (same : ∀ k : LaneId, (t.lane k).cfg = (s.lane k).cfg ∧ (t.lane k).queue = (s.lane k).queue) : StoreLaw t := by
  have occ : ∀ k : LaneId, occupancy (t.lane k) = occupancy (s.lane k) := fun k => by rw [occupancy, (same k).2, occupancy]
  have use : ∀ k : LaneId, sharedUse (t.lane k) = sharedUse (s.lane k) := fun k => by
    rw [sharedUse, occ, (same k).1, sharedUse]
  have reserves : sumLanes (fun L => L.cfg.reserve) t = sumLanes (fun L => L.cfg.reserve) s :=
    sumLanes_congr _ fun k => by rw [(same k).1]
  obtain ⟨caps, hreserve, hshared⟩ := (storeLaw_iff s).mp h
  refine (storeLaw_iff t).mpr ⟨fun l => ?_, ?_, ?_⟩
  · rw [occ, (same l).1]; exact caps l
  · rwa [reserves]
  · rwa [reserves, sumLanes_congr _ use]

theorem StoreLaw.recompute {t : State} (h : StoreLaw t) (old : State) : StoreLaw (recompute old t) :=
  h.congr fun k => by simp

/-! ### Changes of one lane section -/

/-- A lane section whose queue grows within its cap and, above its reserve, within the free shared part F. -/
theorem StoreLaw.modLane {s : State} (h : StoreLaw s) {l : LaneId} {f : Lane → Lane}
    (hcfg : (f (s.lane l)).cfg = (s.lane l).cfg) (hcap : occupancy (f (s.lane l)) ≤ (s.lane l).cfg.cap)
    (hshared : sharedUse (f (s.lane l)) ≤ sharedUse (s.lane l) + freeShared s) : StoreLaw (s.modLane l f) := by
  obtain ⟨caps, reserves, shared⟩ := (storeLaw_iff s).mp h
  have hreserve := sumLanes_modLane (fun L => L.cfg.reserve) s l f
  have huse := sumLanes_modLane sharedUse s l f
  simp only [hcfg] at hreserve
  simp only [freeShared, sharedPart, Config.poolSlots] at hshared
  refine (storeLaw_iff _).mpr ⟨fun k => ?_, by omega, by omega⟩
  by_cases e : k = l
  · subst e
    rw [State.lane_modLane_same, hcfg]
    exact hcap
  · rw [State.lane_modLane_other _ _ e]
    exact caps k

/-- A queue that holds no more slots than before keeps the law. -/
theorem StoreLaw.shrink {s : State} (h : StoreLaw s) {l : LaneId} {f : Lane → Lane}
    (hcfg : (f (s.lane l)).cfg = (s.lane l).cfg) (hocc : occupancy (f (s.lane l)) ≤ occupancy (s.lane l)) :
    StoreLaw (s.modLane l f) := by
  obtain ⟨caps, -⟩ := (storeLaw_iff s).mp h
  refine h.modLane hcfg (hocc.trans (caps l)) (Nat.le_add_right_of_le ?_)
  rw [sharedUse, sharedUse, hcfg]
  exact Nat.sub_le_sub_right hocc _

/-- A record within the headroom is within the cap, and within the unused reserve and F (R120, R122). -/
theorem StoreLaw.admission {s : State} (h : StoreLaw s) {l : LaneId} {r : Rec} (fit : recordSlots r.body ≤ headroom s l) :
    StoreLaw (admitRecord l r s) := by
  obtain ⟨caps, -⟩ := (storeLaw_iff s).mp h
  have cap := caps l
  simp only [headroom, headroomOf] at fit
  refine StoreLaw.recompute (h.modLane rfl ?_ ?_) s
  · rw [occupancy_joinQueue]
    omega
  · simp only [sharedUse, occupancy_joinQueue, joinQueue_cfg]
    omega

/-- Records taken from the head free their slots. -/
theorem occupancy_drop_le (L : Lane) (n : Nat) : occupancy { L with queue := L.queue.drop n } ≤ occupancy L :=
  ((List.drop_sublist n L.queue).map fun r : Rec => recordSlots r.body).sum_le_sum fun _ _ => Nat.zero_le _

/-- A lane configuration within the limits of R9 keeps the law. -/
theorem StoreLaw.config {s : State} (h : StoreLaw s) {l : LaneId} {c : LaneConfig} (room : roomFor l c s = true) :
    StoreLaw (withConfig l c s) := by
  obtain ⟨caps, -⟩ := (storeLaw_iff s).mp h
  obtain ⟨reserves, cap, shared⟩ := (roomFor_iff l c s).mp room
  refine (storeLaw_iff _).mpr ⟨fun k => ?_, reserves, shared⟩
  by_cases e : k = l
  · subst e
    rw [withConfig, State.lane_modLane_same]
    exact cap
  · rw [withConfig, State.lane_modLane_other _ _ e]
    exact caps k

/-- Empty queues, and 64 slots reserved for each lane with a cap of 256 (R187, Table 1-7). -/
theorem storeLaw_of_default {s : State} (h : ∀ k : LaneId, (s.lane k).cfg = {} ∧ (s.lane k).queue = []) : StoreLaw s := by
  refine (storeLaw_iff s).mpr ⟨fun l => ?_, ?_, ?_⟩
  · simp [occupancy, h]
  · simp [sumLanes_eq, h]
  · simp [sumLanes_eq, sharedUse, occupancy, h]

/-! ### Every step -/

theorem StoreMoves.storeLaw {s t : State} (h : StoreMoves s t) (hs : StoreLaw s) : StoreLaw t := by
  induction h with
  | refl => exact hs
  | same _ e ih =>
    refine ih.congr fun k => ?_
    simp only [storeView, Prod.mk.injEq] at e
    exact ⟨(e k).1, (e k).2.1⟩
  | admission l r _ fit ih => exact ih.admission fit
  | removal l n _ ih => exact (ih.shrink rfl (occupancy_drop_le _ n)).recompute _
  | config l c _ room ih => exact (ih.config room).recompute _
  | cleared l _ ih => exact (ih.shrink rfl (Nat.zero_le _)).recompute _
  | reset straps => exact storeLaw_of_default fun k => by rw [lane_resetAll]; exact ⟨rfl, rfl⟩

/-- Settles O54. -/
theorem storeLawKept : Obligations.StoreLawKept := fun _ _ hs h => (step_storeMoves h).storeLaw hs

end Sys2Proof.Machine
end

section
/-! PROOFS. O36, O37 and O39: a record offered is lost or joins the tail, PURGE empties a queue, and every recompute judges all
lanes. -/

namespace Sys2Proof.Machine

open Sys2Proof.Claims

/-! ### A loss (R123) -/

/-- F is that of another part with the same configurations and queues. -/
theorem freeShared_congr {s t : State} (h : ∀ k : LaneId, (s.lane k).cfg = (t.lane k).cfg ∧ (s.lane k).queue = (t.lane k).queue) :
    freeShared s = freeShared t := by
  simp [freeShared, sharedPart, sumLanes_eq, sharedUse, occupancy, h]

/-- Settles O36. -/
theorem offerLost : Obligations.OfferLost := by
  refine ⟨fun l s => rfl, fun l b f s full => ?_⟩
  have queues : ∀ k : LaneId, ((lose l s).lane k).cfg = (s.lane k).cfg ∧ ((lose l s).lane k).queue = (s.lane k).queue :=
    fun k => by rw [lane_lose]; split <;> exact ⟨rfl, rfl⟩
  rw [offer_of_not_fits full]
  refine ⟨rfl, freeShared_congr queues, fun k => ⟨headroom_congr queues k, ?_, ?_, fun other => ?_⟩⟩
  · rw [occupancy, (queues k).2, occupancy]
  · rw [lane_lose]; split <;> rfl
  · rw [lane_lose, if_neg other]

/-! ### The admission arithmetic (R115, R119, R120) -/

theorem recordLength_eq_tableLength (b : RecBody) : recordLength b = tableLength b := by
  cases b <;> simp only [recordLength, recordBody, tableLength, le16, le32, List.length_cons, List.length_append, List.length_nil] <;>
    omega

/-- The total free count is F and the unused reserves. -/
theorem totalFree_eq {s : State} (h : StoreLaw s) :
    totalFree s = freeShared s + sumLanes (fun L => L.cfg.reserve - occupancy L) s := by
  obtain ⟨-, reserves, shared, pool⟩ := h
  simp only [sumLanes_eq, sharedUse] at reserves shared pool
  simp only [totalFree, freeShared, sharedPart, sumLanes_eq, sharedUse, Config.poolSlots]
  omega

/-! ### The recompute (R129, R130, R132) -/

/-- Whether a recompute takes a lane section into store-high, from outside it (R129). -/
def entersHigh (after : Nat) (L : Lane) : Bool := judgeHigh after L.cfg.margin L.cfg.hysteresis L.storeHigh && !L.storeHigh

/-- A recompute of a lane section, as one update of it. -/
theorem recomputeLane_update (before after : Nat) (L : Lane) :
    recomputeLane before after L =
      { L with
        storeHigh := judgeHigh after L.cfg.margin L.cfg.hysteresis L.storeHigh, growth := L.growth || decide (before < after)
        sticky := if entersHigh after L then L.sticky ||| flagHigh else L.sticky
        reported := if entersHigh after L then L.reported &&& ~~~flagHigh else L.reported } := by
  rw [recomputeLane_eq, ← entersHigh]
  cases entersHigh after L <;> rfl

theorem recomputeLane_sticky (before after : Nat) (L : Lane) :
    (recomputeLane before after L).sticky = if entersHigh after L then L.sticky ||| flagHigh else L.sticky := by
  rw [recomputeLane_update]

theorem recomputeLane_reported (before after : Nat) (L : Lane) :
    (recomputeLane before after L).reported = if entersHigh after L then L.reported &&& ~~~flagHigh else L.reported := by
  rw [recomputeLane_update]

theorem entersHigh_iff (after : Nat) (L : Lane) :
    entersHigh after L = true ↔ judgeHigh after L.cfg.margin L.cfg.hysteresis L.storeHigh = true ∧ L.storeHigh = false := by
  rw [entersHigh, Bool.and_eq_true, Bool.not_eq_true']

/-! ### An admission (R122, R129, R162) -/

/-- What a recompute reads and writes of a lane section stands before and after an admission as in the lane's own recompute. -/
theorem lane_admit_judged (l k : LaneId) (r : Rec) (s : State) :
    ∃ L : Lane, (L.cfg = (s.lane k).cfg ∧ L.storeHigh = (s.lane k).storeHigh ∧ L.sticky = (s.lane k).sticky ∧
        L.reported = (s.lane k).reported ∧ L.growth = (s.lane k).growth) ∧
      (admitRecord l r s).lane k = recomputeLane (headroom s k) (headroom (admitRecord l r s) k) L := by
  refine ⟨if k = l then joinQueue r (s.lane k) else s.lane k, ?_, ?_⟩
  · split <;> exact ⟨rfl, rfl, rfl, rfl, rfl⟩
  · rw [lane_admit, admitRecord, headroom_recompute]

/-- Settles O37. -/
theorem admissionJoinsTailAndRecomputes : Obligations.AdmissionJoinsTailAndRecomputes := by
  refine ⟨fun b => ⟨recordLength_eq_tableLength b, ?_⟩, fun L => ⟨rfl, rfl⟩, fun s => ?_, fun l r s => rfl, fun old s => ?_,
    fun l b f s fit => ?_⟩
  · rw [recordSlots, recordLength_eq_tableLength]
    rfl
  · refine ⟨?_, ?_, fun l => rfl, fun law => ?_⟩
    · simp only [freeShared, sharedPart, sumLanes_eq, sharedUse, Config.poolSlots]
    · simp only [totalFree, sumLanes_eq, Config.poolSlots]
    · rw [totalFree_eq law, sumLanes_eq]
  · refine congrArg (State.mapLanes s) (funext fun k => funext fun L => ?_)
    rw [recomputeLane_update]
    rfl
  · dsimp only
    rw [offer_of_fits fit]
    refine ⟨admit_queue .., by simp [lane_admit], fun k => ?_⟩
    obtain ⟨L, ⟨hcfg, hhigh, hsticky, hreported, hgrowth⟩, e⟩ :=
      lane_admit_judged l k { body := b, flags := f, stamp := s.clock } s
    refine ⟨?_, ?_, ?_, ?_, fun other => ?_⟩
    · rw [e, recomputeLane_storeHigh, hcfg, hhigh]
      rfl
    · rw [e, recomputeLane_sticky, recomputeLane_storeHigh, hsticky]
      simp only [entersHigh_iff, hhigh]
    · rw [e, recomputeLane_reported, recomputeLane_storeHigh, hreported]
      simp only [entersHigh_iff, hhigh]
    · rw [e, recomputeLane_growth, hgrowth]
    · rw [lane_admit, if_neg other]
      simp

/-! ### Records removed (R135, R136) -/

/-- Settles O39. -/
theorem purgeEmptiesTheQueue : Obligations.PurgeEmptiesTheQueue := by
  intro l s hs
  refine (frameCompletes_lane hs _ (kind := 0x39) (by decide) (body := [laneByte l]) rfl rfl).trans ?_
  have removed : removeOldest l (s.lane l).queue.length (received s) =
      if (s.lane l).queue = [] then received s
      else recompute (received s) ((received s).modLane l fun L => { L with queue := [] }) := by
    have emptied : (received s).modLane l (fun L => { L with queue := L.queue.drop (s.lane l).queue.length }) =
        (received s).modLane l fun L => { L with queue := [] } := State.modLane_congr (by simp)
    simp only [removeOldest, List.length_eq_zero_iff, emptied]
  simp only [lane_received, removed]
  rfl

end Sys2Proof.Machine
end

section
/-! PROOFS. O53: the reset state keeps every law. Every lane section has its default values, so that each law is read off them. -/

namespace Sys2Proof.Machine

/-- Every port is held while its lane is READY (R73). -/
theorem holdRight_default : HoldRight {} {} := by simp [HoldRight]

theorem outputLaw_reset : OutputLaw State.reset := by
  refine ⟨fun l => ?_, ?_⟩
  · rw [lane_reset]
    exact ⟨holdRight_default, holdRight_default⟩
  · have quiet : State.reset.attn = false ∧ State.reset.deviceEnable = 0 := ⟨rfl, rfl⟩
    simp [lane_reset, quiet]

theorem drawerRight_default : DrawerRight false {} := by simp [DrawerRight]

theorem laneAtRest_default : LaneAtRest {} := by simp [LaneAtRest, PortAtRest]

/-- No key is held, and no position is DOWN. -/
theorem heldLaw_reset : HeldLaw State.reset := by
  intro l
  rw [lane_reset]
  refine ⟨List.nodup_nil, nofun, fun p hp => ?_, Nat.zero_le _⟩
  simp [keyAt, heldState] at hp

theorem laneFits_default : LaneFits {} :=
  ⟨portFits_empty rfl rfl rfl, portFits_empty rfl rfl rfl, Nat.zero_le _, nofun⟩

theorem settingsInRange_default : SettingsInRange {} :=
  ⟨laneInRange_default, portInRange_default, portInRange_default, drawerInRange_default⟩

/-- Settles O53. -/
theorem resetKeepsTheLaws : Obligations.ResetKeepsTheLaws := by
  refine ⟨storeLaw_of_default fun k => by rw [lane_reset]; exact ⟨rfl, rfl⟩, fun l => ?_, outputLaw_reset, fun l => ?_,
    (readyLaw_iff _).mpr fun l _ => ?_, (rowLaw_iff _).mpr fun l => ?_, heldLaw_reset, (recentLaw_iff _).mpr fun l => ?_,
    (faultLaw_iff _).mpr fun l => ?_, (sizeLaw_iff _).mpr ⟨fun l => ?_, Nat.zero_le _, Nat.zero_le _, Nat.zero_le _⟩,
    (rangeLaw_iff _).mpr ⟨fun l => ?_, filterInRange_default rfl rfl rfl⟩⟩
  · simp [headroom_reset, lane_reset]
  · rw [lane_reset]
    exact ⟨drawerRight_default, fun _ => rfl⟩
  all_goals rw [lane_reset]
  · exact laneAtRest_default
  · exact nofun
  · exact ⟨Nat.zero_le _, List.nodup_nil⟩
  · exact faultRight_zeroed
  · exact laneFits_default
  · exact settingsInRange_default

end Sys2Proof.Machine
end

section
/-! PROOFS. O38: FETCH. A record is read as Tables 11-8 and 11-9 lay it out; the count of records that a FETCH takes is bounded, and
maximal, by induction on the queue. -/

namespace Sys2Proof.Machine

open Sys2Proof.Claims

/-! ### The bytes of a record (Tables 11-4, 11-5, 11-8, 11-9) -/

theorem length_recordBytes (r : Rec) : (recordBytes r).length = recordLength r.body := by
  simp only [recordBytes, le48, le32, le16, recordLength, List.length_cons, List.length_append, List.length_nil]

/-- Each kind of record has the kind byte and the body of its row. -/
theorem sentRecord_eq (b : RecBody) : sentRecord b = (recordKind b, recordBody b) := by
  cases b with
  | keyDown pos code cls => cases cls <;> rfl
  | lock new previous => cases previous <;> rfl
  | scanReject port index reason length => cases port <;> cases reason <;> rfl
  | drawerOpen cause tries => cases cause <;> rfl
  | drawerAbort cause tries => cases cause <;> rfl
  | scan port | scannerReply port | scannerTimeout port => cases port <;> rfl
  | keyUp | keyRepeat | drawerClosed | drawerOverdue | drawerFail | laneStart => rfl

/-- The flags byte holds one flag in each of its bits 0 to 3 (Table 11-5). -/
theorem flagsByte_bits (f : RecFlags) :
    (flagsByte f).getLsbD 0 = f.delayed ∧ (flagsByte f).getLsbD 1 = f.truncated ∧ (flagsByte f).getLsbD 2 = f.damaged ∧
      (flagsByte f).getLsbD 3 = f.layer ∧ (flagsByte f).toNat < 16 := by
  obtain ⟨delayed, truncated, damaged, layer⟩ := f
  revert delayed truncated damaged layer
  decide

/-! ### Numbers as they are sent (section 1.5) -/

theorem le32_eq (n : Nat) :
    le32 n = [BitVec.ofNat 8 n, BitVec.ofNat 8 (n / 256), BitVec.ofNat 8 (n / 65536), BitVec.ofNat 8 (n / 16777216)] := by
  simp only [le32, le16, byteOf, List.cons_append, List.nil_append, Nat.div_div_eq_div_mul]

theorem le48_eq (c : Clock) : le48 c = (List.range 6).map fun i => BitVec.ofNat 8 (c.toNat / 256 ^ i) := by
  have powers : (List.range 6).map (fun i => BitVec.ofNat 8 (c.toNat / 256 ^ i)) =
      [BitVec.ofNat 8 (c.toNat / 256 ^ 0), BitVec.ofNat 8 (c.toNat / 256 ^ 1), BitVec.ofNat 8 (c.toNat / 256 ^ 2),
        BitVec.ofNat 8 (c.toNat / 256 ^ 3), BitVec.ofNat 8 (c.toNat / 256 ^ 4), BitVec.ofNat 8 (c.toNat / 256 ^ 5)] := rfl
  rw [powers, le48, le32_eq]
  simp only [le16, byteOf, List.cons_append, List.nil_append, Nat.div_div_eq_div_mul]
  norm_num

/-! ### How many records a FETCH takes (R134) -/

theorem fetchCount_cons (most room : Nat) (r : Rec) (q : List Rec) :
    fetchCount most room (r :: q) =
      if most = 0 ∨ room < recordLength r.body then 0 else 1 + fetchCount (most - 1) (room - recordLength r.body) q := by
  rw [fetchCount]
  by_cases nothing : most = 0
  · rw [if_pos nothing, if_pos (.inl nothing)]
  · by_cases past : room < recordLength r.body
    · rw [if_neg nothing, if_pos past, if_pos (.inr past)]
    · rw [if_neg nothing, if_neg past, if_neg (not_or.mpr ⟨nothing, past⟩)]

theorem fetchCount_le_length (most room : Nat) (q : List Rec) : fetchCount most room q ≤ q.length := by
  induction q generalizing most room with
  | nil => exact Nat.le_refl _
  | cons r q ih =>
    have := ih (most - 1) (room - recordLength r.body)
    rw [fetchCount_cons, List.length_cons]
    split <;> omega

theorem fetchCount_le_most (most room : Nat) (q : List Rec) : fetchCount most room q ≤ most := by
  induction q generalizing most room with
  | nil => exact Nat.zero_le _
  | cons r q ih =>
    have := ih (most - 1) (room - recordLength r.body)
    rw [fetchCount_cons]
    split <;> omega

/-- The records taken are within the room. -/
theorem fetchCount_within (most room : Nat) (q : List Rec) :
    ((q.take (fetchCount most room q)).map fun r => recordLength r.body).sum ≤ room := by
  induction q generalizing most room with
  | nil => exact Nat.zero_le _
  | cons r q ih =>
    have := ih (most - 1) (room - recordLength r.body)
    rw [fetchCount_cons]
    split
    · exact Nat.zero_le _
    · rw [Nat.add_comm 1, List.take_succ_cons, List.map_cons, List.sum_cons]
      omega

/-- A record more than are taken is not there, not asked for, or past the room. -/
theorem fetchCount_stops (most room : Nat) (q : List Rec) (records : fetchCount most room q < q.length)
    (asked : fetchCount most room q < most) :
    room < ((q.take (fetchCount most room q + 1)).map fun r => recordLength r.body).sum := by
  induction q generalizing most room with
  | nil => exact absurd records (Nat.not_lt_zero _)
  | cons r q ih =>
    have next := ih (most - 1) (room - recordLength r.body)
    rw [fetchCount_cons] at *
    rw [List.take_succ_cons, List.map_cons, List.sum_cons]
    split_ifs at * with stop
    · omega
    · rw [List.length_cons] at records
      rw [Nat.add_comm 1 (fetchCount _ _ _)]
      have := next (by omega) (by omega)
      omega

/-- A record that fits the room is taken from the head, if one is asked for. -/
theorem fetchCount_pos {most room : Nat} {q : List Rec} (hq : q ≠ []) (asked : 1 ≤ most)
    (fit : ∀ r ∈ q, recordLength r.body ≤ room) : 1 ≤ fetchCount most room q := by
  obtain ⟨r, rest, rfl⟩ := List.exists_cons_of_ne_nil hq
  have := fit r (List.mem_cons_self ..)
  rw [fetchCount_cons, if_neg (by omega)]
  omega

/-- Settles O38. -/
theorem fetchTakesFromTheHead : Obligations.FetchTakesFromTheHead := by
  refine ⟨fun r => ⟨length_recordBytes r, flagsByte r.flags, ?_, flagsByte_bits r.flags⟩, fun n => ⟨rfl, rfl, le32_eq n⟩, le48_eq,
    fun l most s hs short => ?_⟩
  · rw [sentRecord_eq]
    rfl
  · dsimp only
    have within := fetchCount_within (max most.toNat 1) 245 (s.lane l).queue
    refine ⟨fetchCount (max most.toNat 1) 245 (s.lane l).queue, fetchCount_le_length .., fetchCount_le_most ..,
      fun hq => fetchCount_pos hq (Nat.le_max_right ..) fun r hr => (short r hr).trans (by decide), by omega,
      fun records asked => ?_, ?_⟩
    · have := fetchCount_stops _ _ _ records asked
      omega
    · refine (frameCompletes_lane hs _ (kind := 0x38) (by decide) (body := [laneByte l, most]) rfl rfl).trans ?_
      have result : resultByte (okOrClamped (decide (most.toNat = 0))) = if most = 0 then 0x01 else 0x00 := by
        have zero : most.toNat = 0 ↔ most = 0 := by rw [← BitVec.toNat_inj]; rfl
        rw [decide_eq_decide.mpr zero]
        by_cases h : most = 0
        · rw [if_pos h, decide_eq_true h]
          rfl
        · rw [if_neg h, decide_eq_false h]
          rfl
      rw [← result]
      rfl

end Sys2Proof.Machine
end

section
/-! PROOFS. Work in one lane, its records with it. An event of a lane is made of changes of that lane's section that keep its
configuration, its records and its store-high state, and of admissions to its queue; so the room that it leaves to the other lanes
only shrinks while it lasts. -/

namespace Sys2Proof.Machine

/-- The parts that work in lane `l` makes of `s`. -/
inductive LaneWork (l : LaneId) (s : State) : State → Prop
  /-- Nothing has been done. -/
  | refl : LaneWork l s s
  /-- A change of the lane's section that the Event Store does not see. -/
  | change {t : State} (f : Lane → Lane) :
      LaneWork l s t → storeView (f (t.lane l)) = storeView (t.lane l) → LaneWork l s (t.modLane l f)
  /-- A record admitted to the lane's queue (R122). -/
  | admission {t : State} (r : Rec) : LaneWork l s t → LaneWork l s (admitRecord l r t)

namespace LaneWork

variable {l : LaneId} {s t : State}

theorem modLane (h : LaneWork l s t) {f : Lane → Lane} (hf : ∀ L, storeView (f L) = storeView L := by exact fun _ => rfl) :
    LaneWork l s (t.modLane l f) := h.change f (hf _)

theorem modPort (h : LaneWork l s t) {p : PortId} {f : Port → Port} : LaneWork l s (t.modPort l p f) :=
  h.modLane fun _ => storeView_modPort ..

theorem modDrawer (h : LaneWork l s t) {f : Drawer → Drawer} : LaneWork l s (t.modDrawer l f) := h.modLane

theorem newDrawer (h : LaneWork l s t) {f : Lane → Drawer} : LaneWork l s (t.modLane l fun L => { L with drawer := f L }) :=
  h.modLane

theorem raise (h : LaneWork l s t) {f : Byte} : LaneWork l s (raise l f t) := h.modLane

theorem count (h : LaneWork l s t) {c : Counter} : LaneWork l s (count l c t) := h.modLane

theorem offerFault (h : LaneWork l s t) {kind : FaultKind} {src : FaultSource} {n : Nat} :
    LaneWork l s (offerFault l kind src n t) := h.modLane

theorem lose (h : LaneWork l s t) : LaneWork l s (lose l t) := h.modLane

theorem offer (h : LaneWork l s t) {b : RecBody} {f : RecFlags} : LaneWork l s (offer l b f t) :=
  ite_of_both (h.admission _) h.lose

/-! #### Screening attempts (R97) -/

theorem attemptRecord (h : LaneWork l s t) {p : PortId} {r : SlotRecord} {late : Bool} :
    LaneWork l s (attemptRecord l p r late t).1 := by
  have finished : ∀ (r' : Rec) (f : Lane → Lane), (∀ L, storeView (f L) = storeView L) →
      LaneWork l s ((if fits t l r'.body then ((admitRecord l r' t).modLane l f, true) else (t, false)).1) := fun r' f hf =>
    ite_of_both (P := fun out : State × Bool => LaneWork l s out.1) ((h.admission r').modLane hf) h
  unfold Machine.attemptRecord
  split
  · exact h.modLane fun _ => storeView_modPort ..
  · exact finished (scanRecord p r _ late) _ fun _ => by cases p <;> rfl
  · exact finished (rejectRecord p r _ _ late) _ fun _ => by cases p <;> rfl

theorem attempt (h : LaneWork l s t) {late : Bool} : LaneWork l s (attempt l late t).1 := by
  unfold Machine.attempt
  split
  · exact h
  · split
    · exact h
    · exact h.attemptRecord

theorem attemptChain (h : LaneWork l s t) {late : Bool} : LaneWork l s (attemptChain l late t) :=
  ite_of_both h.attempt.attempt h.attempt

theorem clearRecent (h : LaneWork l s t) : LaneWork l s (clearRecent l t) :=
  (h.modLane (f := recentEmptied)).attemptChain

/-! #### A sample pass (R20) -/

theorem localKick (h : LaneWork l s t) : LaneWork l s (localKick l t) := by
  unfold Machine.localKick
  split
  · exact h
  · exact h.modDrawer

theorem classAction (h : LaneWork l s t) {cls : KeyClass} : LaneWork l s (classAction l cls t) := by
  cases cls with
  | drawer => exact ite_of_both h.localKick h
  | clearRecent => exact h.clearRecent
  | ignore | normal | shift | lockContact => exact h

theorem press (h : LaneWork l s t) {p : Nat} : LaneWork l s (press l p t) := by
  have joined : ∀ k, LaneWork l s (t.modLane l fun L => { L with held := L.held ++ [k] }) := fun _ => h.modLane
  refine ite_of_both ?_ (joined _)
  exact (joined (keyEntry t.elapsed (t.lane l) p)).offer.count.modLane.classAction

theorem release (h : LaneWork l s t) {p : Nat} : LaneWork l s (release l p t) := by
  unfold Machine.release
  split
  · exact h
  · exact (ite_of_both (P := LaneWork l s) h.offer h).modLane

theorem visit (h : LaneWork l s t) {closed : BitVec 128} {p : Nat} : LaneWork l s (visit l closed t p) := by
  have moved : ∀ k, LaneWork l s (t.modLane l (setKey p k)) := fun _ => h.modLane
  refine ite_of_both h ?_
  unfold handOver
  split
  · exact moved _
  · exact (moved _).press
  · exact (moved _).release
  · exact (moved _).count

theorem walk (h : LaneWork l s t) {closed : BitVec 128} : LaneWork l s (walk l closed t) := by
  have visits : ∀ (ps : List Nat) {u : State}, LaneWork l s u → LaneWork l s (ps.foldl (Machine.visit l closed) u) := by
    intro ps
    induction ps with
    | nil => exact fun h => h
    | cons p ps ih => exact fun h => ih h.visit
  exact visits _ h

theorem ghostAnalysis (h : LaneWork l s t) {closed : BitVec 128} : LaneWork l s (ghostAnalysis l closed t) := by
  have marked : ∀ g, LaneWork l s (t.modLane l fun L => { L with ghost := g }) := fun _ => h.modLane
  unfold Machine.ghostAnalysis
  dsimp only
  split
  · exact marked false
  · exact ite_of_both h (marked true).count.offerFault

theorem defineLock (h : LaneWork l s t) {new : LockPos} : LaneWork l s (defineLock l new t) := by
  cases new with
  | index i => exact ite_of_both h (h.offer.raise.modLane)
  | inTransit | noLock => exact h

theorem lockNotice (h : LaneWork l s t) : LaneWork l s (lockNotice l t) := by
  have located : LaneWork l s (t.modLane l fun L => { L with lock := computeLock (t.lane l) }) := h.modLane
  exact ite_of_both located.defineLock located.defineLock.attemptChain.newDrawer

theorem repeatNotice (h : LaneWork l s t) {high : Bool} : LaneWork l s (repeatNotice l high t) := by
  obtain e | ⟨r, k, _, _, _, e⟩ := repeatNotice_cases l high t
  · rwa [e]
  · rw [e, repeatFalls]
    exact ite_of_both h.modLane.count h.modLane.offer

theorem samplePass (h : LaneWork l s t) {closed : BitVec 128} : LaneWork l s (samplePass l closed t) := by
  have begun : LaneWork l s (t.modLane l (nextPass closed)) := h.modLane
  unfold Machine.samplePass passWork notice
  split
  · exact begun.ghostAnalysis.walk.lockNotice.repeatNotice
  · exact h

/-! #### A scanner port (R60 to R71, R84 to R88) -/

theorem appendChar (h : LaneWork l s t) {p : PortId} {c : ScanChar} : LaneWork l s (appendChar l p c t) := by
  unfold Machine.appendChar
  dsimp only
  split
  · exact h.modPort
  · exact ite_of_both h.modPort h.modPort.offerFault

theorem deliverReply (h : LaneWork l s t) {p : PortId} {code : List Byte} {damaged : Bool} :
    LaneWork l s (deliverReply l p code damaged t) := by
  unfold Machine.deliverReply takeReply
  split
  · exact h.offer.raise.modPort
  · exact h.offer.raise.modPort
  · exact h.offerFault.modPort
  · exact h.offerFault

theorem enterSlot (h : LaneWork l s t) {p : PortId} {code : List Byte} {damaged : Bool} :
    LaneWork l s (enterSlot l p code damaged t) := by
  unfold Machine.enterSlot
  split
  · exact h.offerFault.lose
  · exact ite_of_both h.modPort.attemptChain h.modPort

theorem complete (h : LaneWork l s t) {p : PortId} : LaneWork l s (complete l p t) :=
  ite_of_both h.modPort.deliverReply h.modPort.enterSlot

theorem huntChar (h : LaneWork l s t) {p : PortId} {c : ScanChar} : LaneWork l s (huntChar l p c t) :=
  ite_of_both (ite_of_both h.modPort h) (ite_of_both h h.modPort.appendChar)

theorem assemblyChar (h : LaneWork l s t) {p : PortId} {c : ScanChar} : LaneWork l s (assemblyChar l p c t) :=
  ite_of_both (ite_of_both h.modPort h.complete) (ite_of_both h.offerFault.modPort h.appendChar)

theorem receiveChar (h : LaneWork l s t) {p : PortId} {c : ScanChar} : LaneWork l s (receiveChar l p c t) := by
  refine ite_of_both h.modPort ?_
  split
  · exact h.modPort
  · exact h.modPort.huntChar
  · exact h.modPort.assemblyChar
  · exact ite_of_both h.modPort.modPort h.modPort.modPort

theorem gapExpires (h : LaneWork l s t) {p : PortId} : LaneWork l s (gapExpires l p t) :=
  ite_of_both (ite_of_both (P := LaneWork l s) h.offerFault h).modPort h

theorem replyExpires (h : LaneWork l s t) {p : PortId} : LaneWork l s (replyExpires l p t) :=
  ite_of_both h.offer.offerFault.raise.modPort h

theorem takeGrowth (h : LaneWork l s t) : LaneWork l s (takeGrowth l t) :=
  ite_of_both (h.modLane (f := growthTaken)).attemptChain h

/-! #### The drawer (R145 to R156) -/

theorem debounced (h : LaneWork l s t) : LaneWork l s (debounced l t) := by
  unfold Machine.debounced openAtStart openUncommanded openCommanded closeDrawer
  dsimp only
  split
  · exact h.modDrawer.modDrawer
  · exact h.modDrawer.offer.newDrawer
  · exact h.modDrawer.offer.count.count.raise.newDrawer
  · exact h.modDrawer.offer.count.newDrawer
  · exact h.modDrawer.offer.count.newDrawer
  · exact h.modDrawer.offer.modDrawer
  · exact h.modDrawer.offer.modDrawer
  all_goals exact h.modDrawer

theorem takeDebounced (h : LaneWork l s t) : LaneWork l s (takeDebounced l t) := ite_of_both h.debounced h

theorem pulseExpires (h : LaneWork l s t) : LaneWork l s (pulseExpires l t) := ite_of_both h.modDrawer h

theorem retryExpires (h : LaneWork l s t) : LaneWork l s (retryExpires l t) :=
  ite_of_both h (ite_of_both h.modDrawer h.modDrawer.offer.offerFault.count.raise)

theorem openExpires (h : LaneWork l s t) : LaneWork l s (openExpires l t) := ite_of_both h.offer.raise.modDrawer h

theorem abortKick (h : LaneWork l s t) : LaneWork l s (abortKick l t) := ite_of_both h.modDrawer.offer.raise.modDrawer h

theorem senseLevel (h : LaneWork l s t) {high : Bool} : LaneWork l s (senseLevel l high t) :=
  h.modLane fun L => ite_of_both (P := fun L' => storeView L' = storeView L) rfl rfl

end LaneWork

/-- Every event of a lane is work in that lane, and the outputs judged at its end. -/
theorem exec_laneWork {i : Instr} {l : LaneId} (h : Claims.laneOf i = some l) (s : State) :
    ∃ t, exec i s = done t ∧ LaneWork l s t := by
  have start := LaneWork.refl (l := l) (s := s)
  cases i <;> cases h
  case samplePassEnd => exact ⟨_, rfl, start.samplePass⟩
  case scannerCharacterReceived => exact ⟨_, rfl, start.receiveChar⟩
  case gapTimerExpiry => exact ⟨_, rfl, start.gapExpires⟩
  case growthReport => exact ⟨_, rfl, start.takeGrowth⟩
  case transmitByteSent => exact ⟨_, rfl, start.modPort⟩
  case replyTimerExpiry => exact ⟨_, rfl, start.replyExpires⟩
  case rawSensorChange => exact ⟨_, rfl, start.senseLevel⟩
  case debouncedChange => exact ⟨_, rfl, start.takeDebounced⟩
  case pulseTimerExpiry => exact ⟨_, rfl, start.pulseExpires⟩
  case retryTimerExpiry => exact ⟨_, rfl, start.retryExpires⟩
  case openTimerExpiry => exact ⟨_, rfl, start.openExpires⟩
  case scannerStartBit => exact ⟨_, rfl, start.modPort⟩

end Sys2Proof.Machine
end

section
/-! PROOFS. O60: what an event of a lane does to the other lanes. Each admission to its queue leaves another lane no more headroom
than it had, so a lane that it takes into store-high stays there to the end of the event. -/

namespace Sys2Proof.Machine

open Sys2Proof.Claims

/-! ### The room left to the others (R119, R120) -/

/-- An admission takes at most its slots from the free shared part. -/
theorem freeShared_joinQueue (s : State) (l : LaneId) (r : Rec) :
    freeShared (s.modLane l (joinQueue r)) ≤ freeShared s ∧
      freeShared s ≤ freeShared (s.modLane l (joinQueue r)) + recordSlots r.body := by
  have reserves := sumLanes_modLane (fun L => L.cfg.reserve) s l (joinQueue r)
  have uses := sumLanes_modLane sharedUse s l (joinQueue r)
  simp only [joinQueue_cfg] at reserves
  simp only [sharedUse, occupancy_joinQueue, joinQueue_cfg] at uses
  simp only [freeShared, sharedPart]
  omega

/-- An admission takes at most its slots from the headroom of another lane, and gives it none. -/
theorem headroom_joinQueue_other (s : State) {l k : LaneId} (h : k ≠ l) (r : Rec) :
    headroom (s.modLane l (joinQueue r)) k ≤ headroom s k ∧
      headroom s k ≤ headroom (s.modLane l (joinQueue r)) k + recordSlots r.body := by
  have free := freeShared_joinQueue s l r
  simp only [headroom, headroomOf, State.lane_modLane_other _ _ h]
  omega

/-! ### A lane section under recomputes -/

/-- A lane section with a store-high state and a growth mark, and HIGH raised or not. -/
def storeMoved (high growth raised : Bool) (L : Lane) : Lane :=
  { L with
    storeHigh := high, growth := growth
    sticky := if raised then L.sticky ||| flagHigh else L.sticky
    reported := if raised then L.reported &&& ~~~flagHigh else L.reported }

theorem storeMoved_self (L : Lane) : storeMoved L.storeHigh L.growth false L = L := rfl

theorem recomputeLane_eq_storeMoved (before after : Nat) (L : Lane) :
    recomputeLane before after L =
      storeMoved (judgeHigh after L.cfg.margin L.cfg.hysteresis L.storeHigh) (L.growth || decide (before < after))
        (entersHigh after L) L :=
  recomputeLane_update before after L

/-- HIGH raised once or twice is raised. -/
theorem storeMoved_storeMoved (high high' growth growth' raised raised' : Bool) (L : Lane) :
    storeMoved high' growth' raised' (storeMoved high growth raised L) = storeMoved high' growth' (raised || raised') L := by
  cases raised <;> cases raised' <;> simp [storeMoved, BitVec.or_assoc, BitVec.and_assoc]

/-- A lane section that recomputes have made of another, the headroom no more than `room` at the last of them: HIGH has been raised
only on the way into a store-high state that still holds. -/
def JudgedIn (room : Nat) (L L' : Lane) : Prop :=
  ∃ high growth raised : Bool, L' = storeMoved high growth raised L ∧ (raised = true → high = true ∧ room < L.cfg.margin) ∧
    (L.storeHigh = false → raised = high)

theorem JudgedIn.refl (room : Nat) (L : Lane) : JudgedIn room L L :=
  ⟨L.storeHigh, L.growth, false, (storeMoved_self L).symm, nofun, Eq.symm⟩

/-- A recompute at a headroom below the hold margin is one into store-high; one that enters it is below the margin (R129). -/
theorem judgeHigh_low {h margin hysteresis : Nat} (low : h < margin) (was : Bool) : judgeHigh h margin hysteresis was = true :=
  if_pos low

theorem low_of_entersHigh {h : Nat} {L : Lane} (enters : entersHigh h L = true) : h < L.cfg.margin := by
  obtain ⟨on, was⟩ := (entersHigh_iff h L).mp enters
  by_contra enough
  rw [judgeHigh, if_neg enough, was] at on
  split at on <;> cases on

/-- One recompute more, at no more headroom. -/
theorem JudgedIn.recompute {room room' before : Nat} {L L' : Lane} (h : JudgedIn room L L') (less : room' ≤ room) :
    JudgedIn room' L (recomputeLane before room' L') := by
  obtain ⟨high, growth, raised, rfl, held, entered⟩ := h
  rw [recomputeLane_eq_storeMoved, storeMoved_storeMoved]
  refine ⟨_, _, _, rfl, fun hr => ?_, fun out => ?_⟩
  · have low : room' < L.cfg.margin := by
      obtain old | new := (Bool.or_eq_true _ _).mp hr
      · exact Nat.lt_of_le_of_lt less (held old).2
      · exact low_of_entersHigh (L := storeMoved high growth raised L) new
    exact ⟨judgeHigh_low low _, low⟩
  · obtain rfl := entered out
    rw [entersHigh]
    cases raised with
    | true => exact (judgeHigh_low (Nat.lt_of_le_of_lt less (held rfl).2) _).symm
    | false => exact Bool.and_true _

/-! ### The other lanes, and the device section -/

/-- What work in a lane does to another lane. -/
theorem LaneWork.judgedIn {l k : LaneId} {s t : State} (h : LaneWork l s t) (other : k ≠ l) :
    JudgedIn (headroom t k) (s.lane k) (t.lane k) := by
  induction h with
  | refl => exact .refl _ _
  | change f _ unseen ih =>
    simp only [storeView, Prod.mk.injEq] at unseen
    rw [headroom_modLane unseen.1 unseen.2.1, State.lane_modLane_other _ _ other]
    exact ih
  | @admission t r _ ih =>
    rw [lane_admit, if_neg other, admitRecord, headroom_recompute]
    exact ih.recompute (headroom_joinQueue_other t other r).1

/-- Work in a lane is out of the device section. -/
theorem LaneWork.device {l : LaneId} {s t : State} (h : LaneWork l s t) : t = { s with lanes := t.lanes } := by
  induction h with
  | refl => rfl
  | @change t f _ _ ih => exact congrArg (fun u : State => { u with lanes := (t.modLane l f).lanes }) ih
  | @admission t r _ ih => exact congrArg (fun u : State => { u with lanes := (admitRecord l r t).lanes }) ih

/-- The end of the event judges the HOLD outputs of the lane again. -/
theorem JudgedIn.settled {room : Nat} {L L' : Lane} (h : JudgedIn room L L') : OnlyStoreMoved L (settleLane L') := by
  obtain ⟨high, growth, raised, rfl, held, entered⟩ := h
  exact ⟨high, raised, growth, _, _, fun hr => (held hr).1, entered, rfl⟩

/-- Settles O60. -/
theorem laneEventsStayInTheirLane : Obligations.LaneEventsStayInTheirLane := by
  refine ⟨fun s l k f g => ⟨rfl, State.lane_modLane .., State.lane_mapLanes .., rfl, rfl, rfl⟩,
    fun s l f => ⟨rfl, rfl, rfl, rfl⟩, fun i l k s t hi other h => ?_⟩
  obtain ⟨u, e, work⟩ := exec_laneWork hi s
  cases e.symm.trans h
  refine ⟨?_, ?_⟩
  · rw [lane_settle]
    exact (work.judgedIn other).settled
  · exact congrArg (fun v : State => { v with lanes := (settle u).lanes, attn := (settle u).attn }) work.device

end Sys2Proof.Machine
end

section
/-! PROOFS. O44: an assertion of INH_N. It reaches the Drawer Controllers one after the other. What a lane is found with when its turn
comes differs from what it had at the assertion by recomputes alone, and by at most one slot of headroom for each other lane whose
kick has been aborted; an aborted kick is not aborted again. -/

namespace Sys2Proof.Machine

open Sys2Proof.Claims

/-! ### A kick and its abort, in one lane (R156) -/

/-- A RUNNING lane whose drawer is in a kick. -/
abbrev InKick (L : Lane) : Prop := L.run = .running ∧ (L.drawer.st = .kickPulse ∨ L.drawer.st = .kickWait)

/-- A drawer whose kick output and timers an abort has stopped, before its record is offered. -/
def kickStopped (D : Drawer) : Drawer := { D with kick := false, pulse := none, retry := none }

theorem abortKick_of_inKick {l : LaneId} {s : State} (h : InKick (s.lane l)) :
    abortKick l s =
      (raise l flagDrawer (offer l (.drawerAbort .inhibit (s.lane l).drawer.tries) {} (s.modDrawer l kickStopped))).modDrawer l
        enterShut :=
  if_pos ⟨h.1, (kicking_iff _).mpr h.2⟩

theorem abortKick_of_not_inKick {l : LaneId} {s : State} (h : ¬InKick (s.lane l)) : abortKick l s = s :=
  if_neg fun hk => h ⟨hk.1, (kicking_iff _).mp hk.2⟩

/-- The abort of a kick has joined the queue, with the pending losses and the tries used (R122, R156). -/
def AbortJoined (clock : Clock) (L L' : Lane) : Prop :=
  L'.lost = 0 ∧ L'.counters = L.counters ∧
    L'.queue = L.queue ++ [{ body := .drawerAbort .inhibit L.drawer.tries, flags := {}, lostBefore := L.lost, stamp := clock }]

/-- The abort of a kick has been lost (R123). -/
def AbortLost (L L' : Lane) : Prop :=
  L'.queue = L.queue ∧ L'.lost = min (L.lost + 1) 255 ∧ L'.counters = L.counters.set 8 (L.counters[8] + 1) ∧
    L'.sticky &&& flagLoss ≠ 0

/-- A lane section whose kick has been aborted where the headroom was `room`. -/
structure Aborted (clock : Clock) (room : Nat) (L L' : Lane) : Prop where
  shut : L'.drawer = shutDrawer L.drawer
  drawerFlag : L'.sticky &&& flagDrawer ≠ 0
  joined : 1 ≤ room → AbortJoined clock L L'
  lost : room = 0 → AbortLost L L'

/-- A flag that is set stays set when flags are raised. -/
theorem flag_or_ne_zero {sticky f : Byte} (h : sticky &&& f ≠ 0) (g : Byte) : (sticky ||| g) &&& f ≠ 0 := by
  rw [BitVec.and_comm] at h ⊢
  rw [BitVec.and_or_distrib_left]
  exact fun zero => h (BitVec.or_eq_zero_iff.mp zero).1

theorem flag_raised_ne_zero {f : Byte} (h : f ≠ 0) (sticky : Byte) : (sticky ||| f) &&& f ≠ 0 := by
  rw [BitVec.or_comm]
  exact flag_or_ne_zero (by rwa [BitVec.and_self]) sticky

/-- What INH_N's assertion does to the lane that it reaches. -/
theorem aborted_abortKick {l : LaneId} {s : State} (h : InKick (s.lane l)) :
    Aborted s.clock (headroom s l) (s.lane l) ((abortKick l s).lane l) := by
  have room : headroom (s.modDrawer l kickStopped) l = headroom s l := headroom_modLane rfl rfl l
  rw [abortKick_of_inKick h, State.modDrawer, State.lane_modLane_same, raise, State.lane_modLane_same]
  obtain ⟨fit, e⟩ | ⟨full, e⟩ := offer_cases l (.drawerAbort .inhibit (s.lane l).drawer.tries) {} (s.modDrawer l kickStopped)
  · rw [recordSlots_drawerAbort, room] at fit
    rw [e, lane_admit, if_pos rfl, State.modDrawer, State.lane_modLane_same, recomputeLane_eq_storeMoved]
    exact ⟨rfl, flag_raised_ne_zero (by decide) _, fun _ => ⟨rfl, rfl, rfl⟩, fun full => absurd fit (by omega)⟩
  · rw [recordSlots_drawerAbort, room] at full
    rw [e, lane_lose, if_pos rfl, State.modDrawer, State.lane_modLane_same]
    exact ⟨rfl, flag_raised_ne_zero (by decide) _, fun enough => absurd full (by omega),
      fun _ => ⟨rfl, rfl, rfl, flag_or_ne_zero (flag_raised_ne_zero (by decide) _) _⟩⟩

/-! ### Recomputes before and after it -/

/-- A lane section that recomputes have made of another. -/
def Recomputed (L L' : Lane) : Prop := ∃ high growth raised, L' = storeMoved high growth raised L

theorem Recomputed.refl (L : Lane) : Recomputed L L := ⟨_, _, false, (storeMoved_self L).symm⟩

theorem Recomputed.trans {L M N : Lane} (h : Recomputed L M) (h' : Recomputed M N) : Recomputed L N := by
  obtain ⟨high, growth, raised, rfl⟩ := h
  obtain ⟨high', growth', raised', rfl⟩ := h'
  exact ⟨_, _, _, storeMoved_storeMoved ..⟩

theorem Recomputed.inKick_iff {L L' : Lane} (h : Recomputed L L') : InKick L' ↔ InKick L := by
  obtain ⟨high, growth, raised, rfl⟩ := h
  rfl

/-- A flag that is set stays set under recomputes. -/
theorem Recomputed.flag {L L' : Lane} (h : Recomputed L L') {f : Byte} (isSet : L.sticky &&& f ≠ 0) : L'.sticky &&& f ≠ 0 := by
  obtain ⟨high, growth, raised, rfl⟩ := h
  exact ite_of_both (P := fun sticky => sticky &&& f ≠ 0) (flag_or_ne_zero isSet _) isSet

/-- An abort is the same abort with recomputes before and after it. -/
theorem Aborted.recomputed {clock : Clock} {room : Nat} {L M M' L' : Lane} (before : Recomputed L M) (h : Aborted clock room M M')
    (after : Recomputed M' L') : Aborted clock room L L' := by
  obtain ⟨high, growth, raised, rfl⟩ := before
  have loss := fun isSet : M'.sticky &&& flagLoss ≠ 0 => after.flag isSet
  have flag := after.flag h.drawerFlag
  obtain ⟨high', growth', raised', rfl⟩ := after
  refine ⟨h.shut, flag, h.joined, fun full => ?_⟩
  obtain ⟨queue, lost, counters, isSet⟩ := h.lost full
  exact ⟨queue, lost, counters, loss isSet⟩

/-! ### The assertion at the other lanes -/

/-- The number of lanes in a kick. -/
def kicksLeft (s : State) : Nat := sumLanes (fun L => (decide (InKick L)).toNat) s

/-- What a lane keeps while the assertion reaches the others: its section but for recomputes, and its headroom but for one slot for
each kick aborted. -/
structure Awaits (l : LaneId) (s t : State) : Prop where
  lane : Recomputed (s.lane l) (t.lane l)
  less : headroom t l ≤ headroom s l
  room : headroom s l + kicksLeft t ≤ headroom t l + kicksLeft s

theorem Awaits.refl (l : LaneId) (s : State) : Awaits l s s := ⟨.refl _, Nat.le_refl _, Nat.le_refl _⟩

theorem Awaits.trans {l : LaneId} {s t u : State} (h : Awaits l s t) (h' : Awaits l t u) : Awaits l s u where
  lane := h.lane.trans h'.lane
  less := h'.less.trans h.less
  room := by
    have := h.room
    have := h'.room
    omega

/-- A change of two parts in one lane alone moves a sum by that lane's part. -/
theorem sumLanes_of_others (f : Lane → Nat) {s t : State} {l : LaneId} (h : ∀ k, k ≠ l → f (t.lane k) = f (s.lane k)) :
    sumLanes f t + f (s.lane l) = sumLanes f s + f (t.lane l) := by
  rw [← sumLanes_modLane f s l fun _ => t.lane l]
  refine congrArg (· + _) (sumLanes_congr f fun k => ?_)
  by_cases e : k = l
  · subst e; rw [State.lane_modLane_same]
  · rw [State.lane_modLane_other _ _ e, h k e]

/-- An offer of another lane takes at most its slots. -/
theorem headroom_offer_other {l k : LaneId} (h : k ≠ l) (b : RecBody) (f : RecFlags) (s : State) :
    headroom (offer l b f s) k ≤ headroom s k ∧ headroom s k ≤ headroom (offer l b f s) k + recordSlots b := by
  obtain ⟨-, e⟩ | ⟨-, e⟩ := offer_cases l b f s
  · rw [e, admitRecord, headroom_recompute]
    exact headroom_joinQueue_other s h _
  · rw [e, lose, headroom_modLane rfl rfl]
    omega

/-- The abort of another lane's kick takes one slot at most. -/
theorem headroom_abortKick_other {l k : LaneId} (other : k ≠ l) {s : State} (kick : InKick (s.lane l)) :
    headroom (abortKick l s) k ≤ headroom s k ∧ headroom s k ≤ headroom (abortKick l s) k + 1 := by
  have offered := headroom_offer_other other (.drawerAbort .inhibit (s.lane l).drawer.tries) {} (s.modDrawer l kickStopped)
  have before : headroom (s.modDrawer l kickStopped) k = headroom s k := headroom_modLane rfl rfl k
  rw [recordSlots_drawerAbort, before] at offered
  rwa [abortKick_of_inKick kick, State.modDrawer, headroom_modLane rfl rfl, raise, headroom_modLane rfl rfl]

theorem recomputed_abortKick {l k : LaneId} (other : k ≠ l) (s : State) : Recomputed (s.lane k) ((abortKick l s).lane k) := by
  obtain ⟨high, growth, raised, e, -⟩ := (LaneWork.refl (l := l)).abortKick.judgedIn (s := s) other
  exact ⟨high, growth, raised, e⟩

/-- An aborted drawer is in SHUT, so its kick is over. -/
theorem Aborted.not_inKick {clock : Clock} {room : Nat} {L L' : Lane} (h : Aborted clock room L L') : ¬InKick L' := by
  simp [h.shut, shutDrawer]

theorem kicksLeft_abortKick {l : LaneId} {s : State} (kick : InKick (s.lane l)) : kicksLeft (abortKick l s) + 1 = kicksLeft s := by
  have kicks := sumLanes_of_others (fun L => (decide (InKick L)).toNat) (s := s) (t := abortKick l s) (l := l) fun k other => by
    rw [decide_eq_decide.mpr (recomputed_abortKick other s).inKick_iff]
  rwa [decide_eq_true kick, decide_eq_false (aborted_abortKick kick).not_inKick] at kicks

/-- The assertion at another lane, or at a lane with no kick to abort. -/
theorem awaits_abortKick {l k : LaneId} {s : State} (h : k = l → ¬InKick (s.lane l)) : Awaits l s (abortKick k s) := by
  by_cases kick : InKick (s.lane k)
  · have other : l ≠ k := fun e => h e.symm (e ▸ kick)
    obtain ⟨less, room⟩ := headroom_abortKick_other other kick
    have := kicksLeft_abortKick kick
    exact ⟨recomputed_abortKick other s, less, by omega⟩
  · rw [abortKick_of_not_inKick kick]
    exact .refl l s

/-! ### The whole assertion -/

/-- INH_N's assertion at the lanes of a list, one after the other. -/
def abortKicks (lanes : List LaneId) (s : State) : State := lanes.foldl (fun t l => abortKick l t) s

theorem abortKicks_device (lanes : List LaneId) (s : State) : abortKicks lanes s = { s with lanes := (abortKicks lanes s).lanes } := by
  induction lanes generalizing s with
  | nil => rfl
  | cons k lanes ih =>
    have first : abortKick k s = { s with lanes := (abortKick k s).lanes } := (LaneWork.refl (l := k)).abortKick.device
    exact (ih (abortKick k s)).trans
      (congrArg (fun u : State => { u with lanes := (abortKicks lanes (abortKick k s)).lanes }) first)

theorem awaits_abortKicks {l : LaneId} (lanes : List LaneId) {s : State} (h : l ∈ lanes → ¬InKick (s.lane l)) :
    Awaits l s (abortKicks lanes s) := by
  induction lanes generalizing s with
  | nil => exact .refl l s
  | cons k lanes ih =>
    have first : Awaits l s (abortKick k s) := awaits_abortKick fun e => h (e ▸ List.mem_cons_self ..)
    exact first.trans (ih fun later => by
      rw [first.lane.inKick_iff]
      exact h (List.mem_cons_of_mem _ later))

/-- The kick of a lane that the assertion reaches, after the lanes `first`, is aborted there, once. -/
theorem aborted_abortKicks {l : LaneId} {first rest : List LaneId} (fresh : l ∉ first) {s : State} (h : InKick (s.lane l)) :
    Aborted s.clock (headroom (abortKicks first s) l) (s.lane l) ((abortKicks (first ++ l :: rest) s).lane l) := by
  have before : Awaits l s (abortKicks first s) := awaits_abortKicks first fun reached => absurd reached fresh
  have abort := aborted_abortKick (before.lane.inKick_iff.mpr h)
  have after : Awaits l _ (abortKicks rest (abortKick l (abortKicks first s))) := awaits_abortKicks rest fun _ =>
    abort.not_inKick
  have clock : (abortKicks first s).clock = s.clock := by rw [abortKicks_device]
  rw [clock] at abort
  have parts : abortKicks (first ++ l :: rest) s = abortKicks rest (abortKick l (abortKicks first s)) := List.foldl_append ..
  rw [parts]
  exact .recomputed before.lane abort after.lane

theorem length_filter_eq_sum {α : Type} (p : α → Bool) (xs : List α) : (xs.filter p).length = (xs.map fun x => (p x).toNat).sum := by
  induction xs with
  | nil => rfl
  | cons x xs ih => cases h : p x <;> simp [h, ih, Nat.add_comm]

/-- The number of other lanes in a kick. -/
def otherKicks (s : State) (l : LaneId) : Nat :=
  ((List.finRange 4).filter fun k : LaneId => decide (k ≠ l) && decide (InKick (s.lane k))).length

/-- The lanes in a kick are a lane's own and the others. -/
theorem kicksLeft_eq (s : State) (l : LaneId) : kicksLeft s = otherKicks s l + (decide (InKick (s.lane l))).toNat := by
  have four : List.finRange 4 = [0, 1, 2, 3] := rfl
  rw [kicksLeft, sumLanes_eq, otherKicks, length_filter_eq_sum, four]
  match l with
  | 0 => simp; omega
  | 1 => simp; omega
  | 2 => simp; omega
  | 3 => simp; omega

/-- Every lane is among those that an assertion reaches, and the first of the order is reached first. -/
theorem reached_split (order : List LaneId) (l : LaneId) :
    ∃ first rest, order ++ [0, 1, 2, 3] = first ++ l :: rest ∧ l ∉ first ∧ (order.head? = some l → first = []) := by
  have reached : l ∈ order ++ [0, 1, 2, 3] := List.mem_append_right _ (by revert l; decide)
  obtain ⟨first, rest, split, fresh⟩ := List.eq_append_cons_of_mem reached
  refine ⟨first, rest, split, fresh, fun head => ?_⟩
  obtain ⟨others, rfl⟩ := List.head?_eq_some_iff.mp head
  cases first with
  | nil => rfl
  | cons k first =>
    obtain ⟨rfl, -⟩ := List.cons_eq_cons.mp split
    exact absurd (List.mem_cons_self ..) fresh

/-- The part with INH_N asserted, before any lane takes it (R156). -/
def inhibited (s : State) : State := { s with inhibit := true }

theorem exec_inhNAsserted {order : List LaneId} {s : State} (h : s.inhibit = false) :
    exec (.inhNAsserted order) s = .next (settle (abortKicks (order ++ [0, 1, 2, 3]) (inhibited s))) := by
  show done (assertInhibit order s) = _
  rw [assertInhibit, h]
  rfl

/-- Settles O44. -/
theorem inhibitAbortsEveryKick : Obligations.InhibitAbortsEveryKick := by
  refine ⟨fun order s released => ⟨_, exec_inhNAsserted released, ?_, fun l => ⟨fun kick => ?_, fun idle => ?_⟩⟩,
    fun order s asserted => ?_, fun s => rfl⟩
  · rw [settle_inhibit, abortKicks_device]
    rfl
  · obtain ⟨first, rest, split, fresh, head⟩ := reached_split order l
    have awaited : Awaits l (inhibited s) (abortKicks first (inhibited s)) :=
      awaits_abortKicks first fun reached => absurd reached fresh
    obtain ⟨shut, flag, joined, lost⟩ := aborted_abortKicks (rest := rest) fresh (s := inhibited s) kick
    rw [split, lane_settle]
    have less : headroom (abortKicks first (inhibited s)) l ≤ headroom s l := awaited.less
    have room : headroom s l + kicksLeft (abortKicks first (inhibited s)) ≤
        headroom (abortKicks first (inhibited s)) l + kicksLeft s := awaited.room
    refine ⟨shut, flag, fun enough => joined ?_, fun enough atHead => joined ?_, fun full => lost ?_, ?_⟩
    · have still : InKick ((abortKicks first (inhibited s)).lane l) := awaited.lane.inKick_iff.mpr kick
      have enough : otherKicks s l < headroom s l := enough
      rw [kicksLeft_eq s l, kicksLeft_eq _ l, decide_eq_true kick, decide_eq_true still] at room
      omega
    · rw [head atHead]
      exact enough
    · omega
    · obtain full | enough := Nat.eq_zero_or_pos (headroom (abortKicks first (inhibited s)) l)
      · exact .inr (lost full)
      · exact .inl (joined enough)
  · have same : Recomputed (s.lane l) ((abortKicks (order ++ [0, 1, 2, 3]) (inhibited s)).lane l) :=
      (awaits_abortKicks (s := inhibited s) _ fun _ => idle).lane
    obtain ⟨high, growth, raised, e⟩ := same
    rw [lane_settle, e]
    exact ⟨rfl, rfl, rfl⟩
  · show done (assertInhibit order s) = _
    rw [assertInhibit, asserted]
    rfl

end Sys2Proof.Machine
end

section
/-! PROOFS. O56: the law of the drawers and of INH_N (R141, R156). Each lane section is judged by itself: only events of a drawer, the
walk's local kicks, START, STOP, RESET_LANE, KICK and DRAWER_CONFIG move one, and an assertion of INH_N, which reaches the drawers one
after the other, leaves each that it has reached outside a kick. -/

namespace Sys2Proof.Machine

open Sys2Proof.Claims

/-! ### The law of one drawer -/

theorem drawerRight_enterShut (inhibit : Bool) (D : Drawer) : DrawerRight inhibit (enterShut D) := by
  simp [DrawerRight, enterShut]

theorem drawerRight_enterOpen (inhibit : Bool) (now : Nat) (paused : Bool) (D : Drawer) :
    DrawerRight inhibit (enterOpen now paused D) := by
  simp [DrawerRight, enterOpen]

theorem drawerRight_stoppedDrawer (inhibit : Bool) (D : Drawer) : DrawerRight inhibit (stoppedDrawer D) := by
  simp [DrawerRight, stoppedDrawer]

theorem drawerRight_reset (inhibit dsense : Bool) : DrawerRight inhibit { dsense := dsense } := by
  simp [DrawerRight]

/-- A drawer in a kick shows that INH_N is released (R156). -/
theorem DrawerRight.released {inhibit : Bool} {D : Drawer} (h : DrawerRight inhibit D) (kick : D.st = .kickPulse ∨ D.st = .kickWait) :
    inhibit = false := by
  obtain ⟨-, aborted, -⟩ := h
  cases inhibit with
  | false => rfl
  | true => exact absurd kick (not_or.mpr (aborted rfl))

/-- A pulse begins while INH_N is released, the open timer stopped (R147, R150). -/
theorem DrawerRight.beginPulse {D : Drawer} (h : DrawerRight false D) (hst : D.st ≠ .opened) (now tries : Nat) :
    DrawerRight false (beginPulse now tries D) := by
  obtain ⟨-, -, -, timer⟩ := h
  simp [DrawerRight, Machine.beginPulse, timer hst]

/-- A pulse ends in KICK_WAIT (R149). -/
theorem DrawerRight.pulseEnds {inhibit : Bool} {D : Drawer} (h : DrawerRight inhibit D) (hst : D.st = .kickPulse) :
    DrawerRight inhibit { D with st := .kickWait, kick := false, pulse := none } := by
  obtain rfl := h.released (.inl hst)
  obtain ⟨-, -, -, timer⟩ := h
  simp [DrawerRight, timer (by simp [hst])]

/-- An alarm falls due in OPEN, where no try is used (R154). -/
theorem DrawerRight.overdue {inhibit : Bool} {D : Drawer} (h : DrawerRight inhibit D) (hst : D.st = .opened) :
    DrawerRight inhibit { D with st := .overdue, openTimer := .stopped } := by
  obtain ⟨kick, -, idle, -⟩ := h
  simp [DrawerRight, kick, hst, idle (by simp [hst]) (by simp [hst])]

/-- A new lock position moves the open timer of an OPEN drawer alone (R153). -/
theorem DrawerRight.pauseOpen {inhibit : Bool} {D : Drawer} (h : DrawerRight inhibit D) (now : Nat) (paused : Bool) :
    DrawerRight inhibit (pauseOpen now paused D) := by
  obtain ⟨kick, aborted, idle, -⟩ := id h
  unfold Machine.pauseOpen
  split
  case h_1 hst _ => exact ⟨kick, aborted, idle, fun closed => absurd hst closed⟩
  case h_2 hst _ => exact ⟨kick, aborted, idle, fun closed => absurd hst closed⟩
  case h_3 => exact h

/-! ### The law of one lane section -/

/-- What R1, R141 and R156 say of the drawer of one lane section. -/
def LaneDrawerRight (inhibit : Bool) (L : Lane) : Prop :=
  DrawerRight inhibit L.drawer ∧ (L.run = .ready → L.drawer.st = .settling)

theorem drawerLaw_iff (s : State) : DrawerLaw s ↔ ∀ l : LaneId, LaneDrawerRight s.inhibit (s.lane l) := Iff.rfl

/-- All that the law of the drawers reads of a lane section. -/
def drawerView (L : Lane) : LaneState × Drawer := (L.run, L.drawer)

theorem passView_drawerView : PassView drawerView := fun _ _ hrun _ _ _ hdrawer => by simp [drawerView, hrun, hdrawer]

theorem LaneDrawerRight.of_view {inhibit : Bool} {L L' : Lane} (h : LaneDrawerRight inhibit L) (e : drawerView L' = drawerView L) :
    LaneDrawerRight inhibit L' := by
  obtain ⟨hrun, hdrawer⟩ := Prod.mk.inj e
  rwa [LaneDrawerRight, hrun, hdrawer]

/-- A RUNNING lane's drawer may be in any state. -/
theorem laneDrawerRight_of_running {inhibit : Bool} {L : Lane} (h : DrawerRight inhibit L.drawer) (hr : L.run = .running) :
    LaneDrawerRight inhibit L :=
  ⟨h, fun ready => absurd (hr.symm.trans ready) (by decide)⟩

/-- A drawer that is not in SETTLING is one of a RUNNING lane. -/
theorem LaneDrawerRight.running {inhibit : Bool} {L : Lane} (h : LaneDrawerRight inhibit L) (hst : L.drawer.st ≠ .settling) :
    L.run = .running := by
  cases hr : L.run with
  | ready => exact absurd (h.2 hr) hst
  | running => rfl

/-! ### What a change keeps -/

namespace DrawerLaw

variable {s t : State}

/-- A change of the part in no lane state and no drawer. -/
theorem of_views (h : DrawerLaw s) (inhibit : t.inhibit = s.inhibit)
    (views : ∀ k : LaneId, drawerView (t.lane k) = drawerView (s.lane k)) : DrawerLaw t := fun k => by
  rw [inhibit]
  exact LaneDrawerRight.of_view (h k) (views k)

theorem aside (h : DrawerLaw s) (lanes : t.lanes = s.lanes) (inhibit : t.inhibit = s.inhibit) : DrawerLaw t :=
  h.of_views inhibit fun k => by rw [State.lane, lanes]; rfl

theorem change (h : DrawerLaw s) {l : LaneId} {f : Lane → Lane}
    (hf : LaneDrawerRight s.inhibit (s.lane l) → LaneDrawerRight s.inhibit (f (s.lane l))) : DrawerLaw (s.modLane l f) := by
  intro k
  by_cases e : k = l
  · subst e
    rw [State.lane_modLane_same]
    exact hf (h k)
  · rw [State.lane_modLane_other _ _ e]
    exact h k

theorem modLane (h : DrawerLaw s) {l : LaneId} {f : Lane → Lane} (hf : drawerView (f (s.lane l)) = drawerView (s.lane l)) :
    DrawerLaw (s.modLane l f) := h.change fun hl => hl.of_view hf

theorem recompute (h : DrawerLaw s) (old : State) : DrawerLaw (recompute old s) := h.of_views rfl fun k => by simp [drawerView]

theorem settle (h : DrawerLaw s) : DrawerLaw (settle s) := h.of_views rfl fun k => by rw [lane_settle]; rfl

theorem keptByWork (l : LaneId) : KeptByWork l drawerView DrawerLaw where
  change _ _ hf h := h.modLane hf
  admission s r h := DrawerLaw.recompute (h.modLane (f := joinQueue r) rfl) s

theorem offer (h : DrawerLaw s) {l : LaneId} {b : RecBody} {f : RecFlags} : DrawerLaw (offer l b f s) :=
  (keptByWork l).offer passView_drawerView b f h

theorem attemptChain (h : DrawerLaw s) {l : LaneId} {late : Bool} : DrawerLaw (attemptChain l late s) :=
  (keptByWork l).attemptChain passView_drawerView late h

theorem modPort (h : DrawerLaw s) {l : LaneId} {p : PortId} {f : Port → Port} : DrawerLaw (s.modPort l p f) :=
  (keptByWork l).modPort passView_drawerView p f h

/-! ### A sample pass (R20, R54, R148) -/

theorem beginKick (h : DrawerLaw s) {l : LaneId} (accepted : kickRefusal s l = none) : DrawerLaw (beginKick l s) := by
  obtain ⟨hrun, released, -, hst⟩ := (kickRefusal_eq_none_iff s l).mp accepted
  refine h.change fun ⟨right, _⟩ => laneDrawerRight_of_running ?_ hrun
  rw [released] at right ⊢
  exact right.beginPulse (by simp [hst]) _ _

theorem localKick (h : DrawerLaw s) {l : LaneId} : DrawerLaw (localKick l s) := by
  unfold Machine.localKick
  split
  · exact h
  · next accepted => exact h.beginKick accepted

theorem lockNotice (h : DrawerLaw s) {l : LaneId} : DrawerLaw (lockNotice l s) := by
  have located : DrawerLaw (s.modLane l fun L => { L with lock := computeLock (s.lane l) }) := h.modLane rfl
  have defined := (keptByWork l).defineLock passView_drawerView (computeLock (s.lane l)) located
  refine ite_of_both defined (defined.attemptChain.change fun ⟨right, settled⟩ => ⟨right.pauseOpen _ _, fun ready => ?_⟩)
  have closed := settled ready
  simp [pauseOpen, closed]

theorem samplePass (h : DrawerLaw s) {l : LaneId} {closed : BitVec 128} : DrawerLaw (samplePass l closed s) := by
  have begun : DrawerLaw (s.modLane l (nextPass closed)) := h.modLane rfl
  have analysed := (keptByWork l).ghostAnalysis passView_drawerView closed begun
  have walked := (keptByWork l).walk passView_drawerView (fun _ ht => ht.localKick) closed analysed
  unfold Machine.samplePass passWork notice
  split
  · exact (keptByWork l).repeatNotice passView_drawerView _ walked.lockNotice
  · exact h

end DrawerLaw

/-! ### The events of a drawer (R145 to R154) -/

/-- A part whose drawers are right, with lane `l` RUNNING. -/
structure RightRunning (l : LaneId) (s : State) : Prop where
  law : DrawerLaw s
  run : (s.lane l).run = .running

theorem keptByWork_rightRunning (l : LaneId) : KeptByWork l drawerView (RightRunning l) where
  change s f hf h := ⟨h.law.modLane hf, by rw [State.lane_modLane_same, (Prod.mk.inj hf).1, h.run]⟩
  admission s r h := ⟨(DrawerLaw.keptByWork l).admission s r h.law, by simpa [lane_admit] using h.run⟩

namespace RightRunning

variable {l : LaneId} {s : State}

theorem drawer (h : RightRunning l s) {f : Lane → Drawer}
    (hf : DrawerRight s.inhibit (s.lane l).drawer → DrawerRight s.inhibit (f (s.lane l))) :
    RightRunning l (s.modLane l fun L => { L with drawer := f L }) where
  law := h.law.change fun ⟨right, _⟩ => laneDrawerRight_of_running (hf right) h.run
  run := by rw [State.lane_modLane_same]; exact h.run

theorem opened (h : RightRunning l s) {now : Nat} :
    RightRunning l (s.modLane l fun L => { L with drawer := enterOpen now (alarmPaused L) L.drawer }) :=
  h.drawer fun _ => drawerRight_enterOpen ..

theorem shut (h : RightRunning l s) : RightRunning l (s.modDrawer l enterShut) := h.drawer fun _ => drawerRight_enterShut ..

theorem offer (h : RightRunning l s) {b : RecBody} {f : RecFlags} : RightRunning l (offer l b f s) :=
  (keptByWork_rightRunning l).offer passView_drawerView b f h

theorem count (h : RightRunning l s) {c : Counter} : RightRunning l (count l c s) :=
  (keptByWork_rightRunning l).count passView_drawerView c h

theorem raise (h : RightRunning l s) {f : Byte} : RightRunning l (raise l f s) :=
  (keptByWork_rightRunning l).raise passView_drawerView f h

theorem offerFault (h : RightRunning l s) {k : FaultKind} {src : FaultSource} {n : Nat} : RightRunning l (offerFault l k src n s) :=
  (keptByWork_rightRunning l).offerFault passView_drawerView k src n h

theorem debounced (h : RightRunning l s) : RightRunning l (debounced l s) := by
  have ended : RightRunning l (s.modDrawer l endMeasure) := h.drawer id
  unfold Machine.debounced openAtStart openUncommanded openCommanded closeDrawer
  dsimp only
  split
  · exact ended.shut
  · exact ended.offer.opened
  · exact ended.offer.count.count.raise.opened
  · exact ended.offer.count.opened
  · exact ended.offer.count.opened
  · exact ended.offer.shut
  · exact ended.offer.shut
  all_goals exact ended

end RightRunning

namespace DrawerLaw

variable {s : State} {l : LaneId}

/-- A debounced change is one of a RUNNING lane. -/
theorem takeDebounced (h : DrawerLaw s) : DrawerLaw (takeDebounced l s) := by
  unfold Machine.takeDebounced
  split
  · next due =>
    obtain ⟨hr, -⟩ := (debouncedChangeDue_iff s l).mp due
    exact (RightRunning.debounced ⟨h, hr⟩).law
  · exact h

/-- A drawer that is not in SETTLING is one of a RUNNING lane. -/
theorem running (h : DrawerLaw s) (hst : (s.lane l).drawer.st ≠ .settling) : RightRunning l s :=
  ⟨h, LaneDrawerRight.running (h l) hst⟩

theorem pulseExpires (h : DrawerLaw s) : DrawerLaw (pulseExpires l s) := by
  unfold Machine.pulseExpires
  split
  · next due =>
    obtain ⟨hst, -⟩ := (pulseDue_iff s l).mp due
    exact ((h.running (by simp [hst])).drawer fun right => right.pulseEnds hst).law
  · exact h

theorem retryExpires (h : DrawerLaw s) : DrawerLaw (retryExpires l s) := by
  unfold Machine.retryExpires
  dsimp only
  split
  · exact h
  · next due =>
    obtain ⟨hst, -⟩ := (retryDue_iff s l).mp (by simpa using due)
    have running := h.running (l := l) (by simp [hst])
    split
    · refine (running.drawer fun right => ?_).law
      have released := right.released (.inr hst)
      rw [released] at right ⊢
      exact right.beginPulse (by simp [hst]) _ _
    · exact running.shut.offer.offerFault.count.raise.law

theorem openExpires (h : DrawerLaw s) : DrawerLaw (openExpires l s) := by
  unfold Machine.openExpires
  split
  · next due =>
    obtain ⟨hst, -⟩ := (openDue_iff s l).mp due
    have reported := (h.running (l := l) (by simp [hst])).offer (b := .drawerOverdue (s.lane l).drawer.active.alarm) (f := {})
    refine (reported.raise.drawer fun right => right.overdue ?_).law
    simpa [Machine.raise] using hst
  · exact h

/-- A level of DSENSE moves a measurement alone (R145). -/
theorem senseLevel (h : DrawerLaw s) {high : Bool} : DrawerLaw (senseLevel l high s) := by
  refine h.change fun hl => ?_
  split
  · exact hl
  · obtain ⟨right, settled⟩ := hl
    dsimp only
    split
    · rw [rawChanged_eq]
      exact ⟨right, settled⟩
    · exact ⟨right, settled⟩

end DrawerLaw

/-! ### INH_N (R156, R157) -/

/-- The lane states and the drawers after INH_N's assertion at one Drawer Controller (R156). -/
theorem drawerView_abortKick (l k : LaneId) (s : State) :
    drawerView ((abortKick l s).lane k) =
      if k = l ∧ InKick (s.lane l) then (.running, shutDrawer (s.lane l).drawer) else drawerView (s.lane k) := by
  by_cases kick : InKick (s.lane l)
  · rw [abortKick_of_inKick kick]
    by_cases e : k = l
    · subst e
      rw [if_pos ⟨rfl, kick⟩]
      simp [drawerView, raise, State.modDrawer, kick.1, enterShut, shutDrawer, kickStopped]
    · simp [drawerView, raise, State.modDrawer, e]
  · rw [abortKick_of_not_inKick kick, if_neg fun e => kick e.2]

theorem LaneDrawerRight.abortKick {inhibit : Bool} {l k : LaneId} {s : State} (h : LaneDrawerRight inhibit (s.lane k)) :
    LaneDrawerRight inhibit ((abortKick l s).lane k) := by
  have view := drawerView_abortKick l k s
  split at view
  · obtain ⟨hrun, hdrawer⟩ := Prod.mk.inj view
    exact laneDrawerRight_of_running (by rw [hdrawer]; exact drawerRight_enterShut ..) hrun
  · exact h.of_view view

/-- The drawer that the assertion has reached is outside a kick. -/
theorem LaneDrawerRight.aborted {l : LaneId} {s : State} (h : LaneDrawerRight false (s.lane l)) :
    LaneDrawerRight true ((Machine.abortKick l s).lane l) := by
  have view := drawerView_abortKick l l s
  split at view
  · obtain ⟨hrun, hdrawer⟩ := Prod.mk.inj view
    exact laneDrawerRight_of_running (by rw [hdrawer]; exact drawerRight_enterShut ..) hrun
  · next quiet =>
    have noKick : (s.lane l).drawer.st ≠ .kickPulse ∧ (s.lane l).drawer.st ≠ .kickWait := by
      refine not_or.mp fun kick => quiet ⟨rfl, h.running ?_, kick⟩
      rcases kick with hst | hst <;> simp [hst]
    obtain ⟨⟨kick, -, idle, timer⟩, settled⟩ := h
    exact LaneDrawerRight.of_view ⟨⟨kick, fun _ => noKick, idle, timer⟩, settled⟩ view

/-- Every drawer that the assertion reaches, or that was outside a kick, ends outside a kick. -/
theorem laneDrawerRight_abortKicks {k : LaneId} (lanes : List LaneId) {s : State} (h : LaneDrawerRight false (s.lane k))
    (reached : k ∈ lanes ∨ LaneDrawerRight true (s.lane k)) : LaneDrawerRight true ((abortKicks lanes s).lane k) := by
  induction lanes generalizing s with
  | nil => exact reached.resolve_left List.not_mem_nil
  | cons l lanes ih =>
    refine ih h.abortKick ?_
    obtain first | already := reached
    · obtain rfl | later := List.mem_cons.mp first
      · exact .inr h.aborted
      · exact .inl later
    · exact .inr already.abortKick

theorem DrawerLaw.assertInhibit {s : State} (h : DrawerLaw s) {order : List LaneId} : DrawerLaw (assertInhibit order s) := by
  cases asserted : s.inhibit with
  | true =>
    rw [Machine.assertInhibit, if_pos asserted]
    exact h
  | false =>
    have reaches : Machine.assertInhibit order s = abortKicks (order ++ [0, 1, 2, 3]) (inhibited s) := by
      rw [Machine.assertInhibit, asserted]
      rfl
    rw [reaches]
    intro k
    obtain ⟨first, rest, split, -⟩ := reached_split order k
    have right : LaneDrawerRight false ((inhibited s).lane k) := asserted ▸ h k
    rw [abortKicks_device]
    refine laneDrawerRight_abortKicks _ right (.inl ?_)
    rw [split]
    exact List.mem_append_right _ (List.mem_cons_self ..)

/-- A release of INH_N takes a condition away. -/
theorem DrawerLaw.releaseInhibit {s : State} (h : DrawerLaw s) : DrawerLaw { s with inhibit := false } := fun k => by
  obtain ⟨⟨kick, -, idle, timer⟩, settled⟩ := h k
  exact ⟨⟨kick, nofun, idle, timer⟩, settled⟩

/-! ### The requests, block by block -/

/-- A request keeps the law of the drawers. -/
def KeepsDrawers (serve : Request) : Prop := ∀ body s, DrawerLaw s → DrawerLaw (serve body s).1

theorem keepsDrawers_withLane {n : Nat} {serve : LaneId → Request} (h : ∀ l, KeepsDrawers (serve l)) :
    KeepsDrawers (withLane n serve) := by
  intro body s law
  obtain ⟨l, e⟩ | ⟨r, e⟩ := withLane_cases n serve body s
  · exact e ▸ h l body s law
  · exact e ▸ law

theorem keepsDrawers_withScope {n : Nat} {serve : Scope → Request} (h : ∀ scope, KeepsDrawers (serve scope)) :
    KeepsDrawers (withScope n serve) := by
  intro body s law
  obtain ⟨scope, e⟩ | ⟨r, e⟩ := withScope_cases n serve body s
  · exact e ▸ h scope body s law
  · exact e ▸ law

theorem keepsDrawers_withLength {n : Nat} {serve : Request} (h : KeepsDrawers serve) : KeepsDrawers (withLength n serve) := by
  intro body s law
  obtain e | ⟨r, e⟩ := withLength_cases n serve body s
  · exact e ▸ h body s law
  · exact e ▸ law

namespace DrawerLaw

variable {s t : State} {c : Prop} [Decidable c]

/-- Either answer of a judgement. -/
theorem either {a b : State × List Byte} (ha : DrawerLaw a.1) (hb : DrawerLaw b.1) : DrawerLaw (if c then a else b).1 :=
  ite_of_both (P := fun out : State × List Byte => DrawerLaw out.1) ha hb

/-- A request that is refused where it is judged, and answered after its work otherwise. -/
theorem judged (h : DrawerLaw s) {r : Result} {b : State × List Byte} (hb : DrawerLaw b.1) :
    DrawerLaw (if c then refuse r s else b).1 := either h hb

theorem accepted (h : DrawerLaw s) (r : Result) : DrawerLaw (accept r s).1 := h

theorem answered (h : DrawerLaw s) (reply : List Byte) : DrawerLaw (s, reply).1 := h

end DrawerLaw

/-! The requests that leave every lane section as it is. -/

theorem keepsDrawers_identify : KeepsDrawers serveIdentify := keepsDrawers_withLength fun _ _ h => h
theorem keepsDrawers_getTime : KeepsDrawers serveGetTime := keepsDrawers_withLength fun _ _ h => h
theorem keepsDrawers_setTime : KeepsDrawers serveSetTime := keepsDrawers_withLength fun _ _ h => h.judged (h.aside rfl rfl)
theorem keepsDrawers_resetDevice : KeepsDrawers serveResetDevice := keepsDrawers_withLength fun _ _ h => h.aside rfl rfl
theorem keepsDrawers_filterConfig : KeepsDrawers serveFilterConfig := keepsDrawers_withLength fun _ _ h =>
  h.judged (h.aside rfl rfl)

theorem keepsDrawers_symbologyWrite : KeepsDrawers serveSymbologyWrite := by
  intro body s h
  refine h.judged (h.judged ?_)
  split
  · exact h
  · exact h.aside rfl rfl

theorem keepsDrawers_keymapRead : KeepsDrawers serveKeymapRead := keepsDrawers_withLane fun _ _ _ h => h.judged h
theorem keepsDrawers_unknown : KeepsDrawers serveUnknown := fun _ _ h => h

/-! The requests that change a lane section, its lane state and its drawer apart. -/

theorem keepsDrawers_laneConfig : KeepsDrawers serveLaneConfig := keepsDrawers_withLane fun l body s h => by
  have configured : DrawerLaw (withConfig l (clampLane (laneGiven body)) s) := h.modLane rfl
  exact h.judged (h.judged (h.judged ((configured.recompute s).accepted _)))

theorem keepsDrawers_linesSet : KeepsDrawers serveLinesSet := keepsDrawers_withLane fun _ _ _ h =>
  h.judged ((h.modLane rfl).accepted _)
theorem keepsDrawers_linesDir : KeepsDrawers serveLinesDir := keepsDrawers_withLane fun _ _ _ h =>
  h.judged ((h.modLane rfl).accepted _)
theorem keepsDrawers_linesRead (outside : Outside) : KeepsDrawers (serveLinesRead outside) := keepsDrawers_withLane fun _ _ _ h =>
  (h.modLane rfl).answered _

theorem keepsDrawers_keymapWrite : KeepsDrawers serveKeymapWrite := by
  intro body s h
  unfold serveKeymapWrite
  refine .either ?_ (keepsDrawers_withLane (fun l body s h => h.judged ?_) body s h)
  · split
    · exact h.judged h
    · exact h
  · split
    · exact h
    · exact h.judged ((h.modLane rfl).accepted _)

theorem keepsDrawers_portConfig : KeepsDrawers servePortConfig := keepsDrawers_withLane fun _ _ _ h => by
  split
  · exact h.judged (h.judged (h.modPort.accepted _))
  · exact h

theorem keepsDrawers_scannerSend : KeepsDrawers serveScannerSend := by
  intro body s h
  unfold serveScannerSend
  refine .either ?_ (keepsDrawers_withLane (fun l body s h => ?_) body s h)
  · split
    · exact h.judged h
    · exact h
  · split
    · exact h
    · refine h.judged ?_
      split
      · exact h
      · exact h.modPort.accepted _

theorem keepsDrawers_forget : KeepsDrawers serveForget := keepsDrawers_withLane fun l _ _ h =>
  (DrawerLaw.keptByWork l).clearRecent passView_drawerView h

theorem DrawerLaw.removeOldest {s : State} (h : DrawerLaw s) (l : LaneId) (n : Nat) : DrawerLaw (removeOldest l n s) := by
  have taken : DrawerLaw (s.modLane l fun L => { L with queue := L.queue.drop n }) := h.modLane rfl
  exact ite_of_both h (taken.recompute s)

theorem keepsDrawers_fetch : KeepsDrawers serveFetch := keepsDrawers_withLane fun l _ _ h => h.removeOldest l _
theorem keepsDrawers_purge : KeepsDrawers servePurge := keepsDrawers_withLane fun l _ _ h => h.removeOldest l _

theorem keepsDrawers_status : KeepsDrawers serveStatus := keepsDrawers_withScope fun scope _ _ h => by
  cases scope with
  | lane l => exact (h.modLane rfl).answered _
  | device => exact h.aside rfl rfl

theorem keepsDrawers_ackFlags : KeepsDrawers serveAckFlags := keepsDrawers_withScope fun scope _ _ h => by
  refine h.judged ?_
  cases scope with
  | lane l => exact (h.modLane rfl).answered _
  | device => exact ite_of_both (P := DrawerLaw) (h.aside rfl rfl) h

theorem keepsDrawers_attnMask : KeepsDrawers serveAttnMask := keepsDrawers_withScope fun scope _ _ h => by
  refine h.judged ?_
  cases scope with
  | lane l => exact (h.modLane rfl).accepted _
  | device => exact h.aside rfl rfl

theorem keepsDrawers_clearFault : KeepsDrawers serveClearFault := keepsDrawers_withLane fun _ _ _ h => (h.modLane rfl).answered _

theorem keepsDrawers_latchCounters : KeepsDrawers serveLatchCounters := keepsDrawers_withLength fun _ _ h =>
  h.judged (h.of_views rfl fun k => by
    rw [State.lane_mapLanes]
    exact ite_of_both (P := fun L => drawerView L = _) rfl rfl)

theorem keepsDrawers_readCounters : KeepsDrawers serveReadCounters := keepsDrawers_withLane fun _ _ _ h => by
  dsimp only
  split
  · exact (h.modLane rfl).answered _
  · exact h

theorem keepsDrawers_clearCounters : KeepsDrawers serveClearCounters := keepsDrawers_withLane fun _ _ _ h =>
  (h.modLane rfl).accepted _

/-! The requests that change a lane state or a drawer. -/

theorem keepsDrawers_start : KeepsDrawers serveStart := keepsDrawers_withLane fun l _ s h => by
  have started : DrawerLaw (s.modLane l (startLane s.elapsed)) := h.change fun _ =>
    laneDrawerRight_of_running (by simp [DrawerRight, startLane]) rfl
  exact h.judged (started.offer.accepted _)

/-- Between its steps STOP has a kick's output off and its state kept; the SETTLING that it ends with is right whatever was before
(R3, R158). -/
theorem DrawerLaw.stopLane {s : State} (h : DrawerLaw s) {l : LaneId} : DrawerLaw (stopLane l s) := by
  have left : ∀ t : State, t.inhibit = s.inhibit → (∀ k, k ≠ l → drawerView (t.lane k) = drawerView (s.lane k)) →
      DrawerLaw (t.modLane l leaveRunning) := by
    intro t inhibit others k
    rw [State.modLane_inhibit, inhibit]
    by_cases e : k = l
    · subst e
      rw [State.lane_modLane_same]
      exact ⟨drawerRight_stoppedDrawer .., fun _ => rfl⟩
    · rw [State.lane_modLane_other _ _ e]
      exact LaneDrawerRight.of_view (h k) (others k e)
  rw [stopLane_eq]
  split
  · exact left _ (by simp) fun k e => by simp [drawerView, e]
  · exact left _ rfl fun k e => by simp [e]

theorem keepsDrawers_stop : KeepsDrawers serveStop := keepsDrawers_withLane fun _ _ _ h => .either h.stopLane h

theorem keepsDrawers_resetLane : KeepsDrawers serveResetLane := keepsDrawers_withLane fun l _ s h => by
  have cleared : DrawerLaw (s.modLane l resetLane) := h.change fun _ =>
    ⟨drawerRight_stoppedDrawer .., fun _ => rfl⟩
  exact (cleared.recompute s).accepted _

/-- DRAWER_CONFIG writes settings, which the law does not read. -/
theorem laneDrawerRight_writeDrawer {inhibit : Bool} {L : Lane} (h : LaneDrawerRight inhibit L) (now : Nat) (given : Timing)
    (high : Bool) (debounce : Nat) (on : Bool) : LaneDrawerRight inhibit (writeDrawer now given high debounce on L) := by
  unfold writeDrawer
  dsimp only
  split
  · rw [rawChanged_eq]
    exact h
  · exact h

theorem keepsDrawers_drawerConfig : KeepsDrawers serveDrawerConfig := keepsDrawers_withLane fun l body s h => by
  have written : ∀ given high debounce on, DrawerLaw (s.modLane l (writeDrawer s.elapsed given high debounce on)) :=
    fun _ _ _ _ => h.change fun hl => laneDrawerRight_writeDrawer hl ..
  exact h.judged ((written _ _ _ _).takeDebounced.accepted _)

theorem keepsDrawers_kick : KeepsDrawers serveKick := keepsDrawers_withLane fun _ _ _ h => by
  split
  · exact h
  · next accepted => exact (h.beginKick accepted).accepted _

/-- Every block of the dispatcher keeps the law of the drawers. -/
theorem keepsDrawers_served (outside : Outside) : ∀ serve ∈ servedBlocks outside, KeepsDrawers serve := by
  simp only [servedBlocks, List.forall_mem_cons]
  exact ⟨keepsDrawers_identify, keepsDrawers_getTime, keepsDrawers_setTime, keepsDrawers_resetDevice, keepsDrawers_laneConfig,
    keepsDrawers_start, keepsDrawers_stop, keepsDrawers_resetLane, keepsDrawers_linesSet, keepsDrawers_linesDir,
    keepsDrawers_linesRead outside, keepsDrawers_keymapWrite, keepsDrawers_keymapRead, keepsDrawers_portConfig,
    keepsDrawers_scannerSend, keepsDrawers_filterConfig, keepsDrawers_symbologyWrite, keepsDrawers_forget, keepsDrawers_fetch,
    keepsDrawers_purge, keepsDrawers_drawerConfig, keepsDrawers_kick, keepsDrawers_status, keepsDrawers_ackFlags,
    keepsDrawers_attnMask, keepsDrawers_clearFault, keepsDrawers_latchCounters, keepsDrawers_readCounters,
    keepsDrawers_clearCounters, keepsDrawers_unknown, nofun⟩

/-! ### Frames, commands and steps -/

namespace DrawerLaw

variable {s : State}

theorem request (h : DrawerLaw s) {outside : Outside} {kind : Byte} {body : List Byte} :
    DrawerLaw (goodFrame (requestOf outside kind) kind body s) :=
  ite_of_both h (ite_of_both (h.aside rfl rfl)
    (DrawerLaw.aside (keepsDrawers_served outside _ (requestOf_mem outside kind) body s h) rfl rfl))

theorem takeChars (h : DrawerLaw s) {run : LineRun} : DrawerLaw (takeChars run s) := by
  have hunted : ∀ fuel chars u, DrawerLaw u → DrawerLaw (hunt run.outside fuel chars u) :=
    hunt_keeps (fun _ _ h => h.aside rfl rfl) (fun _ h => h.aside rfl rfl) fun _ _ _ h => h.request.settle
  have given := fun chars : List LineChar =>
    hunted chars.length chars { s with lineStart := false, lineDrop := false } (h.aside rfl rfl)
  exact ite_of_both h ((given _).aside rfl rfl)

/-- After power-on reset every lane is READY with its drawer in SETTLING (R187). -/
theorem of_reset (straps : BitVec 2) (s : State) : DrawerLaw (resetAll straps s) := fun l => by
  rw [lane_resetAll]
  exact ⟨drawerRight_reset .., fun _ => rfl⟩

theorem idle (h : DrawerLaw s) : DrawerLaw (idle s) := by
  obtain ⟨-, e⟩ | ⟨-, -, e⟩ | ⟨-, -, e⟩ := idle_cases s <;> rw [e]
  · refine h.of_views rfl fun k => ?_
    rw [lane_driveRows]
    exact ite_of_both (P := fun L => drawerView L = _) rfl rfl
  · exact h.aside rfl rfl
  · exact h.aside rfl rfl

end DrawerLaw

/-- Every command keeps the law, before the outputs are judged. -/
theorem exec_drawerLaw (i : Instr) {s : State} (law : DrawerLaw s) : ∃ t, exec i s = done t ∧ DrawerLaw t := by
  cases h : requestFrame i with
  | some frame =>
    obtain ⟨kind, body⟩ := frame
    obtain ⟨outside, e⟩ := exec_frame h s
    have hunting : DrawerLaw (received s) := law.aside rfl rfl
    exact ⟨_, e, hunting.request⟩
  | none =>
    cases i
    case badFrame run => exact ⟨_, rfl, law.takeChars⟩
    case gapLimitExpiry => exact ⟨_, rfl, ite_of_both (law.aside rfl rfl) law⟩
    case replySent => exact ⟨_, rfl, law.aside rfl rfl⟩
    case resetDeviceActs straps => exact ⟨_, rfl, ite_of_both (.of_reset straps s) law⟩
    case powerOnReset straps => exact ⟨_, rfl, .of_reset straps s⟩
    case samplePassEnd l closed => exact ⟨_, rfl, law.samplePass⟩
    case scannerCharacterReceived l p c => exact ⟨_, rfl, (DrawerLaw.keptByWork l).receiveChar passView_drawerView p c law⟩
    case gapTimerExpiry l p => exact ⟨_, rfl, (DrawerLaw.keptByWork l).gapExpires passView_drawerView p law⟩
    case growthReport l => exact ⟨_, rfl, (DrawerLaw.keptByWork l).takeGrowth passView_drawerView law⟩
    case transmitByteSent l p => exact ⟨_, rfl, law.modPort⟩
    case replyTimerExpiry l p => exact ⟨_, rfl, (DrawerLaw.keptByWork l).replyExpires passView_drawerView p law⟩
    case rawSensorChange l high => exact ⟨_, rfl, law.senseLevel⟩
    case debouncedChange l => exact ⟨_, rfl, law.takeDebounced⟩
    case pulseTimerExpiry l => exact ⟨_, rfl, law.pulseExpires⟩
    case retryTimerExpiry l => exact ⟨_, rfl, law.retryExpires⟩
    case openTimerExpiry l => exact ⟨_, rfl, law.openExpires⟩
    case inhNAsserted order => exact ⟨_, rfl, law.assertInhibit⟩
    case inhNReleased => exact ⟨_, rfl, law.releaseInhibit⟩
    case scannerStartBit l p => exact ⟨_, rfl, law.modPort⟩
    case systemLineStartBit => exact ⟨_, rfl, law.aside rfl rfl⟩
    all_goals cases h

/-- Settles O56. -/
theorem drawerLawKept : Obligations.DrawerLawKept := by
  intro s t law h
  unfold step at h
  split at h
  · cases h
    exact law.idle
  · rename_i i rest _
    have taken : DrawerLaw { s with pending := rest } := law.aside rfl rfl
    obtain ⟨u, e, kept⟩ := exec_drawerLaw i taken
    cases e.symm.trans h
    exact kept.settle

end Sys2Proof.Machine
end

section
/-! PROOFS. O41 and O42: the timers of a kick, and the debounced changes of a drawer in each of its states. -/

namespace Sys2Proof.Machine

open Sys2Proof.Claims

/-! ### The timers of a kick (R149, R150) -/

/-- Settles O41. -/
theorem kickTimersExpire : Obligations.KickTimersExpire := by
  refine fun l s => ⟨fun due hst hpulse hdue => ?_, fun due hst hretry hdue => ?_⟩
  · show done (pulseExpires l s) = _
    rw [pulseExpires, if_pos ((pulseDue_iff s l).mpr ⟨hst, due, hpulse, hdue⟩)]
    rfl
  · have expired : exec (.retryTimerExpiry l) s = done (retryExpires l s) := rfl
    rw [expired, retryExpires, (retryDue_iff s l).mpr ⟨hst, due, hretry, hdue⟩, if_neg (by decide)]
    refine ⟨fun left => ?_, fun used => ?_⟩
    · rw [if_pos left]
      exact congrArg done (State.modLane_congr rfl)
    · rw [if_neg (Nat.not_lt.mpr used)]
      rfl

/-! ### Debounced changes (R145, R146, R151, R152, R155) -/

theorem drawer_modDrawer (s : State) (l : LaneId) (f : Drawer → Drawer) :
    ((s.modDrawer l f).lane l).drawer = f (s.lane l).drawer := congrArg Lane.drawer (State.lane_modLane_same ..)

theorem rawOpen_iff (D : Drawer) : rawOpen D = true ↔ D.dsense = D.openHigh := beq_iff_eq

/-- A drawer that enters OPEN when its measurement has ended. -/
theorem modLane_enterOpen {l : LaneId} {t : State} (ended : (t.lane l).drawer.measure = none) (now : Nat) :
    (t.modLane l fun L => { L with drawer := enterOpen now (alarmPaused L) L.drawer }) =
      t.modLane l fun L => { L with drawer := openedDrawer now (alarmPaused L) L.drawer } :=
  State.modLane_congr (by simp only [enterOpen, openedDrawer, ended])

/-- Settles O42. -/
theorem debouncedChangesMoveTheDrawer : Obligations.DebouncedChangesMoveTheDrawer := by
  intro l since s hr hm hdue
  have taken : exec (.debouncedChange l) s = done (debounced l s) := by
    show done (takeDebounced l s) = _
    rw [takeDebounced, if_pos ((debouncedChangeDue_iff s l).mpr ⟨hr, since, hm, hdue⟩)]
  have ended : ((s.modDrawer l endMeasure).lane l).drawer = endMeasure (s.lane l).drawer := drawer_modDrawer ..
  refine ⟨fun shut => ?_, fun raised => ?_⟩
  · have raw : rawOpen (s.lane l).drawer = false := Bool.eq_false_iff.mpr (mt (rawOpen_iff _).mp shut)
    refine ⟨fun hst => ?_, fun hst => ?_⟩
    · rw [taken, debounced, hst, raw]
      rfl
    · have moved : debounced l s = closeDrawer l (s.modDrawer l endMeasure) := by
        obtain hst | hst := hst <;> rw [debounced, hst, raw]
      rw [taken, moved, closeDrawer, ended]
      rfl
  · have raw : rawOpen (s.lane l).drawer = true := (rawOpen_iff _).mpr raised
    refine ⟨fun hst => ?_, fun hst => ?_, fun hst => ?_⟩
    · have moved : debounced l s = openAtStart l (s.modDrawer l endMeasure) := by rw [debounced, hst, raw]
      rw [taken, moved, openAtStart, modLane_enterOpen (by rw [offer_lane_drawer, ended]; rfl)]
      rfl
    · have moved : debounced l s = openCommanded l (s.modDrawer l endMeasure) := by
        obtain hst | hst := hst <;> rw [debounced, hst, raw]
      rw [taken, moved, openCommanded, modLane_enterOpen (by simp [count, ended, endMeasure]), ended]
      rfl
    · have moved : debounced l s = openUncommanded l (s.modDrawer l endMeasure) := by rw [debounced, hst, raw]
      rw [taken, moved, openUncommanded, modLane_enterOpen (by simp [raise, count, ended, endMeasure])]
      rfl

/-- All that a debounced change can do to its drawer: the measurement ends, and the drawer stays, enters SHUT or enters OPEN. -/
theorem drawer_debounced (l : LaneId) (s : State) :
    ((debounced l s).lane l).drawer = endMeasure (s.lane l).drawer ∨
      ((debounced l s).lane l).drawer = enterShut (endMeasure (s.lane l).drawer) ∨
        ∃ paused, ((debounced l s).lane l).drawer = enterOpen s.elapsed paused (endMeasure (s.lane l).drawer) := by
  have ended : ((s.modDrawer l endMeasure).lane l).drawer = endMeasure (s.lane l).drawer := drawer_modDrawer ..
  have opens : ∀ {t : State}, (t.lane l).drawer = endMeasure (s.lane l).drawer → ∃ paused,
      ((t.modLane l fun L => { L with drawer := enterOpen s.elapsed (alarmPaused L) L.drawer }).lane l).drawer =
        enterOpen s.elapsed paused (endMeasure (s.lane l).drawer) := fun ht =>
    ⟨_, by rw [State.lane_modLane_same, ht]⟩
  unfold debounced openAtStart openUncommanded openCommanded closeDrawer
  dsimp only
  split
  · exact .inr (.inl (by rw [drawer_modDrawer, ended]))
  · exact .inr (.inr (opens (by simp [ended])))
  · exact .inr (.inr (opens (by simp [raise, count, ended])))
  · exact .inr (.inr (opens (by simp [count, ended])))
  · exact .inr (.inr (opens (by simp [count, ended])))
  · exact .inr (.inl (by rw [drawer_modDrawer, offer_lane_drawer, ended]))
  · exact .inr (.inl (by rw [drawer_modDrawer, offer_lane_drawer, ended]))
  all_goals exact .inl ended

end Sys2Proof.Machine
end

section
/-! PROOFS. O45: DRAWER_CONFIG. The settings are one change of the lane section, in which only the measurement depends on the polarity
that they replace; a debounced change may follow it. -/

namespace Sys2Proof.Machine

open Sys2Proof.Claims

/-! ### The clamped times (R142) -/

theorem clampTiming_of_inRange {t : Timing} (h : TimingInRange t) : clampTiming t = t := by
  obtain ⟨hwidth, hwidth', hperiod, hperiod', longer, htries, htries', halarm⟩ := h
  have alarm : clampAlarm t.alarm = t.alarm := by
    unfold clampAlarm clamp
    split <;> omega
  simp only [clampTiming, clamp_of_inRange hwidth hwidth', clamp_of_inRange hperiod hperiod', clamp_of_inRange htries htries',
    if_neg (Nat.not_le.mpr longer), alarm]

/-! ### The settings written (R143, R144, R145) -/

/-- The settings that a DRAWER_CONFIG writes: a timing set, the polarity, the debounce time and the local kick. -/
structure DrawerSettings where
  timing : Timing
  openHigh : Bool
  debounce : Nat
  localKick : Bool

/-- The settings of a DRAWER_CONFIG body, its times clamped (R142, R144). -/
def settingsOf (body : List Byte) : DrawerSettings :=
  { timing := clampTiming (timingGiven body), openHigh := decide (u8 body 7 = 0), debounce := clamp 5 100 (u8 body 8)
    localKick := decide (u8 body 9 = 1) }

/-- A drawer with new settings and a measurement; the active set is theirs where they act at once (R143). -/
def configuredDrawer (c : DrawerSettings) (measure : Option Nat) (L : Lane) : Drawer :=
  { L.drawer with
    staged := c.timing
    active := if L.run = .ready ∨ L.drawer.st = .settling ∨ L.drawer.st = .shut then c.timing else L.drawer.active
    openHigh := c.openHigh, debounce := c.debounce, localKick := c.localKick, measure := measure }

/-- The measurement after a DRAWER_CONFIG: a new polarity of a RUNNING lane is a change of its raw reading (log entry 25). -/
def newMeasure (now : Nat) (openHigh : Bool) (L : Lane) : Option Nat :=
  if L.run = .running ∧ L.drawer.openHigh ≠ openHigh then
    if L.drawer.st = .settling ∨
        decide (L.drawer.dsense = openHigh) ≠ (decide (L.drawer.st = .opened) || decide (L.drawer.st = .overdue)) then some now
    else none
  else L.drawer.measure

theorem timingAtOnce_iff (L : Lane) :
    timingAtOnce L = true ↔ L.run = .ready ∨ L.drawer.st = .settling ∨ L.drawer.st = .shut := by
  simp [timingAtOnce, or_assoc]

theorem writeDrawer_eq (now : Nat) (c : DrawerSettings) (L : Lane) :
    writeDrawer now c.timing c.openHigh c.debounce c.localKick L =
      { L with drawer := configuredDrawer c (newMeasure now c.openHigh L) L } := by
  unfold writeDrawer configuredDrawer newMeasure
  simp only [timingAtOnce_iff]
  split
  · rw [rawChanged_eq, debouncedOpen_eq]
    rfl
  · rfl

/-- The part with the settings of a DRAWER_CONFIG written, and a measurement. -/
def drawerWritten (l : LaneId) (body : List Byte) (measure : Option Nat) (s : State) : State :=
  (received s).modLane l fun L => { L with drawer := configuredDrawer (settingsOf body) measure L }

theorem lane_drawerWritten (l : LaneId) (body : List Byte) (measure : Option Nat) (s : State) :
    (drawerWritten l body measure s).lane l =
      { s.lane l with drawer := configuredDrawer (settingsOf body) measure (s.lane l) } := State.lane_modLane_same ..

/-! ### DRAWER_CONFIG, judged -/

/-- What a DRAWER_CONFIG of defined values is answered (R142). -/
def configAnswer (body : List Byte) : List Byte :=
  [if clampTiming (timingGiven body) = timingGiven body ∧ clamp 5 100 (u8 body 8) = u8 body 8 then 0x00 else 0x01]

theorem takeDebounced_of_not_due {l : LaneId} {s : State}
    (h : (s.lane l).run = .running → ∀ since, (s.lane l).drawer.measure = some since →
      s.elapsed < since + (s.lane l).drawer.debounce) : takeDebounced l s = s := by
  refine if_neg fun due => ?_
  obtain ⟨hr, since, hm, reached⟩ := (debouncedChangeDue_iff s l).mp due
  exact absurd (h hr since hm) (Nat.not_lt.mpr reached)

/-- A debounced change is out of the device section. -/
theorem takeDebounced_area (l : LaneId) (s : State) : (takeDebounced l s).area = s.area := by
  rw [(LaneWork.refl (l := l)).takeDebounced.device]

section

variable {l : LaneId} {body : List Byte} {s : State} (hs : Serves s) (hlen : body.length = 10)
  (hlane : body.head? = some (laneByte l))

include hs hlen hlane

/-- A polarity or a local kick that is not defined is BAD_VALUE. -/
theorem drawerConfig_undefined (h : 2 ≤ u8 body 7 ∨ 2 ≤ u8 body 9) : RefusedAs (.drawerConfig body) 0x04 s := by
  refine ⟨0x40, body, rfl, (frameCompletes_lane hs _ (kind := 0x40) (by decide) hlen hlane).trans ?_⟩
  have bad : (!offOn body 7 || !offOn body 9) = true := by
    simp only [offOn, Bool.or_eq_true, Bool.not_eq_true', decide_eq_false_iff_not]
    omega
  rw [if_pos bad]
  rfl

variable (hpolarity : u8 body 7 ≤ 1) (hlocal : u8 body 9 ≤ 1)

include hpolarity hlocal

/-- What a DRAWER_CONFIG of defined values does, and is answered. -/
theorem exec_drawerConfig :
    exec (.drawerConfig body) s =
      .next (replied 0x40 body (configAnswer body)
        (takeDebounced l (drawerWritten l body (newMeasure s.elapsed (settingsOf body).openHigh (s.lane l)) s))) := by
  have good : (!offOn body 7 || !offOn body 9) = false := by simp [offOn, hpolarity, hlocal]
  have polarity : (!isOn body 7) = (settingsOf body).openHigh := by
    have : u8 body 7 = 0 ∨ u8 body 7 = 1 := by omega
    obtain e | e := this <;> simp [isOn, settingsOf, e]
  have written : (received s).modLane l (writeDrawer s.elapsed (clampTiming (timingGiven body)) (!isOn body 7)
      (clamp 5 100 (u8 body 8)) (isOn body 9)) =
        drawerWritten l body (newMeasure s.elapsed (settingsOf body).openHigh (s.lane l)) s := by
    rw [polarity]
    exact State.modLane_congr (writeDrawer_eq s.elapsed (settingsOf body) (s.lane l))
  refine (frameCompletes_lane hs _ (kind := 0x40) (by decide) hlen hlane).trans ?_
  rw [if_neg (by rw [good]; decide), configAnswer, ← resultByte_okOrClamped_iff (changed :=
    decide (clampTiming (timingGiven body) ≠ timingGiven body) || decide (clamp 5 100 (u8 body 8) ≠ u8 body 8))
    (by simp [imp_iff_not_or]), ← written]
  rfl

/-- A DRAWER_CONFIG whose measurement has not reached the debounce time. -/
theorem exec_drawerConfig_of_not_due {measure : Option Nat}
    (hm : newMeasure s.elapsed (settingsOf body).openHigh (s.lane l) = measure)
    (h : (s.lane l).run = .running → ∀ since, measure = some since → s.elapsed < since + (settingsOf body).debounce) :
    exec (.drawerConfig body) s = .next (replied 0x40 body (configAnswer body) (drawerWritten l body measure s)) := by
  rw [exec_drawerConfig hs hlen hlane hpolarity hlocal, hm, takeDebounced_of_not_due]
  rw [lane_drawerWritten]
  exact h

end

/-- The drawer that a DRAWER_CONFIG leaves has its settings; its active set is theirs too where they act at once, and where a
debounced change has brought the drawer to SHUT. -/
theorem drawer_takeDebounced_written (l : LaneId) (body : List Byte) (measure : Option Nat) (s : State) :
    let D := ((takeDebounced l (drawerWritten l body measure s)).lane l).drawer
    D.staged = (settingsOf body).timing ∧ D.openHigh = (settingsOf body).openHigh ∧ D.debounce = (settingsOf body).debounce ∧
      D.localKick = (settingsOf body).localKick ∧
      D.active =
        if (s.lane l).run = .ready ∨ (s.lane l).drawer.st = .settling ∨ (s.lane l).drawer.st = .shut ∨ D.st = .shut then
          (settingsOf body).timing
        else (s.lane l).drawer.active := by
  have cases := drawer_debounced l (drawerWritten l body measure s)
  have written : ((drawerWritten l body measure s).lane l).drawer = configuredDrawer (settingsOf body) measure (s.lane l) := by
    rw [lane_drawerWritten]
  unfold takeDebounced
  dsimp only
  split
  · rw [written] at cases
    obtain e | e | ⟨paused, e⟩ := cases
    · rw [e]; simp [endMeasure, configuredDrawer]
    · rw [e]; simp [enterShut, endMeasure, configuredDrawer]
    · rw [e]; simp [enterOpen, endMeasure, configuredDrawer]
  · rw [written]; simp [configuredDrawer]

/-- Settles O45. -/
theorem drawerConfigStagedOrActive : Obligations.DrawerConfigStagedOrActive := by
  refine ⟨fun l body s hs hlen hlane => ⟨fun undefined => drawerConfig_undefined hs hlen hlane undefined,
    fun hpolarity hlocal => ⟨fun hr => ?_, fun hr moved => ?_, fun hr kept early => ?_, fun since hr kept hm reached => ?_⟩,
    fun hpolarity hlocal => ?_⟩, fun g => ?_, timingInRange_clampTiming, fun g => clampTiming_of_inRange, fun g hwidth hperiod => ?_⟩
  · refine exec_drawerConfig_of_not_due hs hlen hlane hpolarity hlocal ?_ fun running => ?_
    · exact if_neg fun e => absurd (hr.symm.trans e.1) (by decide)
    · exact absurd (hr.symm.trans running) (by decide)
  · refine exec_drawerConfig_of_not_due hs hlen hlane hpolarity hlocal ?_ fun _ since hm => ?_
    · exact if_pos ⟨hr, moved⟩
    · have room : 5 ≤ (settingsOf body).debounce := le_clamp ..
      split at hm
      · cases hm
        omega
      · cases hm
  · refine exec_drawerConfig_of_not_due hs hlen hlane hpolarity hlocal ?_ fun _ => early
    exact if_neg fun e => e.2 kept
  · refine ⟨takeDebounced l (drawerWritten l body (s.lane l).drawer.measure s), rfl, ?_⟩
    rw [exec_drawerConfig hs hlen hlane hpolarity hlocal, newMeasure, if_neg fun e => e.2 kept]
    rfl
  · refine ⟨_, exec_drawerConfig hs hlen hlane hpolarity hlocal, ?_, ?_⟩
    · show (takeDebounced l (drawerWritten l body _ s)).area ++ _ = _
      rw [takeDebounced_area]
      rfl
    · rw [lane_replied]
      exact drawer_takeDebounced_written ..
  · dsimp only
    rw [clampTiming, clampAlarm]
    iterate 5 rw [clamp_eq (by decide)]
  · simp [clampTiming, hwidth, hperiod, clamp]

end Sys2Proof.Machine
end

section
/-! PROOFS. O52: a locked Fault Record keeps its first fault (R171), and a full counter latch its values (R174). What a change of the
part may do to the two is one relation, with a mark for a command that may take a Fault Record back and one for a command that may
empty a latch; every command is then judged by its own marks. -/

namespace Sys2Proof.Machine

open Sys2Proof.Claims

/-! ### The Fault Record and the counter latch of one lane section -/

/-- A change of a Fault Record keeps what a locked one holds, and lowers no further count (R171). -/
def FaultKept (r r' : FaultRecord) : Prop :=
  r.locked = true → r'.locked = true ∧ r'.kind = r.kind ∧ r'.source = r.source ∧ r'.time = r.time ∧ r'.detail = r.detail ∧
    min r.further 255 ≤ r'.further

/-- A change of a counter latch keeps what a full one holds (R174). -/
def LatchKept (latch latch' : Option LatchImage) : Prop := ∀ image, latch = some image → latch' = some image

theorem FaultKept.refl (r : FaultRecord) : FaultKept r r := fun locked => ⟨locked, rfl, rfl, rfl, rfl, Nat.min_le_left ..⟩

theorem FaultKept.trans {r r' r'' : FaultRecord} (h : FaultKept r r') (h' : FaultKept r' r'') : FaultKept r r'' := by
  intro locked
  obtain ⟨locked', kind, source, time, detail, further⟩ := h locked
  obtain ⟨locked'', kind', source', time', detail', further'⟩ := h' locked'
  exact ⟨locked'', kind'.trans kind, source'.trans source, time'.trans time, detail'.trans detail, by omega⟩

/-- A fault offered to a locked record is counted further (R171). -/
theorem faultKept_take (kind : FaultKind) (source : FaultSource) (time : Clock) (detail : Nat) (r : FaultRecord) :
    FaultKept r (r.take kind source time detail) := by
  intro locked
  rw [FaultRecord.take, if_pos locked]
  exact ⟨locked, rfl, rfl, rfl, rfl, Nat.le_min.mpr ⟨by omega, Nat.min_le_right ..⟩⟩

theorem LatchKept.refl (latch : Option LatchImage) : LatchKept latch latch := fun _ => id

/-- LATCH_COUNTERS leaves a full latch as it is (R174). -/
theorem latchKept_latchLane (mask : Byte) (clock : Clock) (l : LaneId) (L : Lane) :
    LatchKept L.counterLatch (latchLane mask clock l L).counterLatch := by
  intro image full
  rw [latchLane, if_neg (by simp [latches, full])]
  exact full

/-- The Fault Record and the counter latch of a lane section. -/
def lockedView (L : Lane) : FaultRecord × Option LatchImage := (L.fault, L.counterLatch)

theorem lockedView_modPort (L : Lane) (p : PortId) (f : Port → Port) : lockedView (L.modPort p f) = lockedView L := by
  simp [lockedView]

/-! ### What a change of the part keeps -/

/-- A change of the part keeps every locked Fault Record, unless it `clears`, and every full latch, unless it `empties`. -/
structure LockedKept (clears empties : Bool) (s t : State) : Prop where
  fault : ∀ l : LaneId, clears = false → FaultKept (s.lane l).fault (t.lane l).fault
  latch : ∀ l : LaneId, empties = false → LatchKept (s.lane l).counterLatch (t.lane l).counterLatch

namespace LockedKept

variable {c e : Bool} {s t u : State}

theorem refl : LockedKept c e s s := ⟨fun _ _ => .refl _, fun _ _ => .refl _⟩

theorem trans (h : LockedKept c e s t) (h' : LockedKept c e t u) : LockedKept c e s u where
  fault l kept := (h.fault l kept).trans (h'.fault l kept)
  latch l kept := fun image full => h'.latch l kept image (h.latch l kept image full)

/-- A change that may clear and empty is held to nothing. -/
theorem of_both : LockedKept true true s t := ⟨nofun, nofun⟩

/-- Whatever leaves the Fault Records and the latches as they are. -/
theorem aside (h : LockedKept c e s t) (same : ∀ k : LaneId, lockedView (u.lane k) = lockedView (t.lane k)) :
    LockedKept c e s u := by
  refine h.trans ⟨fun k _ => ?_, fun k _ => ?_⟩
  · rw [(Prod.mk.inj (same k)).1]
    exact .refl _
  · rw [(Prod.mk.inj (same k)).2]
    exact .refl _

theorem lanes (h : LockedKept c e s t) (same : u.lanes = t.lanes) : LockedKept c e s u :=
  h.aside fun k => by rw [State.lane, same]; rfl

theorem change (h : LockedKept c e s t) {l : LaneId} {f : Lane → Lane}
    (fault : c = false → FaultKept (t.lane l).fault (f (t.lane l)).fault)
    (latch : e = false → LatchKept (t.lane l).counterLatch (f (t.lane l)).counterLatch) : LockedKept c e s (t.modLane l f) := by
  refine h.trans ⟨fun k kept => ?_, fun k kept => ?_⟩
  · obtain rfl | other := eq_or_ne k l
    · rw [State.lane_modLane_same]
      exact fault kept
    · rw [State.lane_modLane_other _ _ other]
      exact .refl _
  · obtain rfl | other := eq_or_ne k l
    · rw [State.lane_modLane_same]
      exact latch kept
    · rw [State.lane_modLane_other _ _ other]
      exact .refl _

theorem modLane (h : LockedKept c e s t) {l : LaneId} {f : Lane → Lane}
    (hf : ∀ L, lockedView (f L) = lockedView L := by exact fun _ => rfl) : LockedKept c e s (t.modLane l f) :=
  h.aside fun k => by
    rw [State.lane_modLane]
    exact ite_of_both (P := fun L => lockedView L = _) (hf _) rfl

theorem recompute (h : LockedKept c e s t) (old : State) : LockedKept c e s (recompute old t) :=
  h.aside fun k => by simp [lockedView]

theorem settle (h : LockedKept c e s t) : LockedKept c e s (settle t) := h.aside fun k => by rw [lane_settle]; rfl

/-! #### Offers, flags, counts and faults -/

theorem modPort (h : LockedKept c e s t) {l : LaneId} {p : PortId} {f : Port → Port} : LockedKept c e s (t.modPort l p f) :=
  h.modLane fun _ => lockedView_modPort ..

theorem modDrawer (h : LockedKept c e s t) {l : LaneId} {f : Drawer → Drawer} : LockedKept c e s (t.modDrawer l f) := h.modLane

theorem newDrawer (h : LockedKept c e s t) {l : LaneId} {f : Lane → Drawer} :
    LockedKept c e s (t.modLane l fun L => { L with drawer := f L }) := h.modLane

theorem raise (h : LockedKept c e s t) {l : LaneId} {f : Byte} : LockedKept c e s (raise l f t) := h.modLane

theorem count (h : LockedKept c e s t) {l : LaneId} {n : Counter} : LockedKept c e s (count l n t) := h.modLane

theorem lose (h : LockedKept c e s t) {l : LaneId} : LockedKept c e s (lose l t) := h.modLane

theorem offerFault (h : LockedKept c e s t) {l : LaneId} {kind : FaultKind} {src : FaultSource} {n : Nat} :
    LockedKept c e s (offerFault l kind src n t) :=
  h.change (fun _ => faultKept_take _ _ _ _ _) fun _ => .refl _

theorem admission (h : LockedKept c e s t) {l : LaneId} {r : Rec} : LockedKept c e s (admitRecord l r t) :=
  (h.modLane (f := joinQueue r)).recompute t

theorem offer (h : LockedKept c e s t) {l : LaneId} {b : RecBody} {f : RecFlags} : LockedKept c e s (offer l b f t) :=
  ite_of_both h.admission h.lose

/-! #### Screening attempts (R97) -/

theorem attemptRecord (h : LockedKept c e s t) {l : LaneId} {p : PortId} {r : SlotRecord} {late : Bool} :
    LockedKept c e s (attemptRecord l p r late t).1 := by
  have finished : ∀ (r' : Rec) (f : Lane → Lane), (∀ L, lockedView (f L) = lockedView L) →
      LockedKept c e s ((if fits t l r'.body then ((admitRecord l r' t).modLane l f, true) else (t, false)).1) := fun r' f hf =>
    ite_of_both (P := fun out : State × Bool => LockedKept c e s out.1) ((h.admission (r := r')).modLane hf) h
  unfold Machine.attemptRecord
  split
  · exact h.modLane fun _ => lockedView_modPort ..
  · exact finished (scanRecord p r _ late) _ fun _ => by cases p <;> rfl
  · exact finished (rejectRecord p r _ _ late) _ fun _ => by cases p <;> rfl

theorem attempt (h : LockedKept c e s t) {l : LaneId} {late : Bool} : LockedKept c e s (attempt l late t).1 := by
  unfold Machine.attempt
  split
  · exact h
  · split
    · exact h
    · exact h.attemptRecord

theorem attemptChain (h : LockedKept c e s t) {l : LaneId} {late : Bool} : LockedKept c e s (attemptChain l late t) :=
  ite_of_both h.attempt.attempt h.attempt

theorem clearRecent (h : LockedKept c e s t) {l : LaneId} : LockedKept c e s (clearRecent l t) :=
  (h.modLane (f := recentEmptied)).attemptChain

/-! #### A sample pass (R20) -/

theorem localKick (h : LockedKept c e s t) {l : LaneId} : LockedKept c e s (localKick l t) := by
  unfold Machine.localKick
  split
  · exact h
  · exact h.modDrawer

theorem classAction (h : LockedKept c e s t) {l : LaneId} {cls : KeyClass} : LockedKept c e s (classAction l cls t) := by
  cases cls with
  | drawer => exact ite_of_both h.localKick h
  | clearRecent => exact h.clearRecent
  | ignore | normal | shift | lockContact => exact h

theorem press (h : LockedKept c e s t) {l : LaneId} {p : Nat} : LockedKept c e s (press l p t) := by
  have joined : ∀ k, LockedKept c e s (t.modLane l fun L => { L with held := L.held ++ [k] }) := fun _ => h.modLane
  refine ite_of_both ?_ (joined _)
  exact (joined (keyEntry t.elapsed (t.lane l) p)).offer.count.modLane.classAction

theorem release (h : LockedKept c e s t) {l : LaneId} {p : Nat} : LockedKept c e s (release l p t) := by
  unfold Machine.release
  split
  · exact h
  · exact (ite_of_both (P := LockedKept c e s) h.offer h).modLane

theorem visit (h : LockedKept c e s t) {l : LaneId} {closed : BitVec 128} {p : Nat} : LockedKept c e s (visit l closed t p) := by
  have moved : ∀ k, LockedKept c e s (t.modLane l (setKey p k)) := fun _ => h.modLane
  refine ite_of_both h ?_
  unfold handOver
  split
  · exact moved _
  · exact (moved _).press
  · exact (moved _).release
  · exact (moved _).count

theorem walk (h : LockedKept c e s t) {l : LaneId} {closed : BitVec 128} : LockedKept c e s (walk l closed t) := by
  have visits : ∀ (ps : List Nat) {u : State}, LockedKept c e s u → LockedKept c e s (ps.foldl (Machine.visit l closed) u) := by
    intro ps
    induction ps with
    | nil => exact fun h => h
    | cons p ps ih => exact fun h => ih h.visit
  exact visits _ h

theorem ghostAnalysis (h : LockedKept c e s t) {l : LaneId} {closed : BitVec 128} : LockedKept c e s (ghostAnalysis l closed t) := by
  have marked : ∀ g, LockedKept c e s (t.modLane l fun L => { L with ghost := g }) := fun _ => h.modLane
  unfold Machine.ghostAnalysis
  dsimp only
  split
  · exact marked false
  · exact ite_of_both h (marked true).count.offerFault

theorem defineLock (h : LockedKept c e s t) {l : LaneId} {new : LockPos} : LockedKept c e s (defineLock l new t) := by
  cases new with
  | index i => exact ite_of_both h (h.offer.raise.modLane)
  | inTransit | noLock => exact h

theorem lockNotice (h : LockedKept c e s t) {l : LaneId} : LockedKept c e s (lockNotice l t) := by
  have located : LockedKept c e s (t.modLane l fun L => { L with lock := computeLock (t.lane l) }) := h.modLane
  exact ite_of_both located.defineLock located.defineLock.attemptChain.newDrawer

theorem repeatNotice (h : LockedKept c e s t) {l : LaneId} {high : Bool} : LockedKept c e s (repeatNotice l high t) := by
  obtain same | ⟨r, k, _, _, _, falls⟩ := repeatNotice_cases l high t
  · rwa [same]
  · rw [falls, repeatFalls]
    exact ite_of_both h.modLane.count h.modLane.offer

theorem samplePass (h : LockedKept c e s t) {l : LaneId} {closed : BitVec 128} : LockedKept c e s (samplePass l closed t) := by
  have begun : LockedKept c e s (t.modLane l (nextPass closed)) := h.modLane
  unfold Machine.samplePass passWork notice
  split
  · exact begun.ghostAnalysis.walk.lockNotice.repeatNotice
  · exact h

/-! #### A scanner port (R60 to R71, R84 to R88) -/

theorem appendChar (h : LockedKept c e s t) {l : LaneId} {p : PortId} {x : ScanChar} : LockedKept c e s (appendChar l p x t) := by
  unfold Machine.appendChar
  dsimp only
  split
  · exact h.modPort
  · exact ite_of_both h.modPort h.modPort.offerFault

theorem deliverReply (h : LockedKept c e s t) {l : LaneId} {p : PortId} {code : List Byte} {damaged : Bool} :
    LockedKept c e s (deliverReply l p code damaged t) := by
  unfold Machine.deliverReply takeReply
  split
  · exact h.offer.raise.modPort
  · exact h.offer.raise.modPort
  · exact h.offerFault.modPort
  · exact h.offerFault

theorem enterSlot (h : LockedKept c e s t) {l : LaneId} {p : PortId} {code : List Byte} {damaged : Bool} :
    LockedKept c e s (enterSlot l p code damaged t) := by
  unfold Machine.enterSlot
  split
  · exact h.offerFault.lose
  · exact ite_of_both h.modPort.attemptChain h.modPort

theorem complete (h : LockedKept c e s t) {l : LaneId} {p : PortId} : LockedKept c e s (complete l p t) :=
  ite_of_both h.modPort.deliverReply h.modPort.enterSlot

theorem huntChar (h : LockedKept c e s t) {l : LaneId} {p : PortId} {x : ScanChar} : LockedKept c e s (huntChar l p x t) :=
  ite_of_both (ite_of_both h.modPort h) (ite_of_both h h.modPort.appendChar)

theorem assemblyChar (h : LockedKept c e s t) {l : LaneId} {p : PortId} {x : ScanChar} : LockedKept c e s (assemblyChar l p x t) :=
  ite_of_both (ite_of_both h.modPort h.complete) (ite_of_both h.offerFault.modPort h.appendChar)

theorem receiveChar (h : LockedKept c e s t) {l : LaneId} {p : PortId} {x : ScanChar} : LockedKept c e s (receiveChar l p x t) := by
  refine ite_of_both h.modPort ?_
  split
  · exact h.modPort
  · exact h.modPort.huntChar
  · exact h.modPort.assemblyChar
  · exact ite_of_both h.modPort.modPort h.modPort.modPort

theorem gapExpires (h : LockedKept c e s t) {l : LaneId} {p : PortId} : LockedKept c e s (gapExpires l p t) :=
  ite_of_both (ite_of_both (P := LockedKept c e s) h.offerFault h).modPort h

theorem replyExpires (h : LockedKept c e s t) {l : LaneId} {p : PortId} : LockedKept c e s (replyExpires l p t) :=
  ite_of_both h.offer.offerFault.raise.modPort h

theorem takeGrowth (h : LockedKept c e s t) {l : LaneId} : LockedKept c e s (takeGrowth l t) :=
  ite_of_both (h.modLane (f := growthTaken)).attemptChain h

/-! #### The drawer (R145 to R156) -/

theorem debounced (h : LockedKept c e s t) {l : LaneId} : LockedKept c e s (debounced l t) := by
  unfold Machine.debounced openAtStart openUncommanded openCommanded closeDrawer
  dsimp only
  split
  · exact h.modDrawer.modDrawer
  · exact h.modDrawer.offer.newDrawer
  · exact h.modDrawer.offer.count.count.raise.newDrawer
  · exact h.modDrawer.offer.count.newDrawer
  · exact h.modDrawer.offer.count.newDrawer
  · exact h.modDrawer.offer.modDrawer
  · exact h.modDrawer.offer.modDrawer
  all_goals exact h.modDrawer

theorem takeDebounced (h : LockedKept c e s t) {l : LaneId} : LockedKept c e s (takeDebounced l t) := ite_of_both h.debounced h

theorem pulseExpires (h : LockedKept c e s t) {l : LaneId} : LockedKept c e s (pulseExpires l t) := ite_of_both h.modDrawer h

theorem retryExpires (h : LockedKept c e s t) {l : LaneId} : LockedKept c e s (retryExpires l t) :=
  ite_of_both h (ite_of_both h.modDrawer h.modDrawer.offer.offerFault.count.raise)

theorem openExpires (h : LockedKept c e s t) {l : LaneId} : LockedKept c e s (openExpires l t) :=
  ite_of_both h.offer.raise.modDrawer h

theorem abortKick (h : LockedKept c e s t) {l : LaneId} : LockedKept c e s (abortKick l t) :=
  ite_of_both h.modDrawer.offer.raise.modDrawer h

theorem assertInhibit (h : LockedKept c e s t) {order : List LaneId} : LockedKept c e s (assertInhibit order t) := by
  have aborts : ∀ (ls : List LaneId) {u : State}, LockedKept c e s u →
      LockedKept c e s (ls.foldl (fun t l => Machine.abortKick l t) u) := by
    intro ls
    induction ls with
    | nil => exact fun h => h
    | cons l ls ih => exact fun h => ih h.abortKick
  exact ite_of_both h (aborts _ (h.lanes rfl))

theorem senseLevel (h : LockedKept c e s t) {l : LaneId} {high : Bool} : LockedKept c e s (senseLevel l high t) :=
  h.modLane fun L => ite_of_both (P := fun L' => lockedView L' = lockedView L) rfl rfl

/-! #### Requests: STOP, and records fetched or purged -/

theorem stopLane (h : LockedKept c e s t) {l : LaneId} : LockedKept c e s (stopLane l t) := by
  have halted : LockedKept c e s (t.modLane l haltedLane) := h.modLane
  rw [stopLane_eq]
  exact (ite_of_both (P := LockedKept c e s) halted.offer halted).modLane

theorem removeOldest (h : LockedKept c e s t) {l : LaneId} {n : Nat} : LockedKept c e s (removeOldest l n t) :=
  ite_of_both h ((h.modLane (f := fun L => { L with queue := L.queue.drop n })).recompute t)

/-! #### Answers -/

/-- Either answer of a judgement. -/
theorem either {p : Prop} [Decidable p] {a b : State × List Byte} (ha : LockedKept c e s a.1) (hb : LockedKept c e s b.1) :
    LockedKept c e s (if p then a else b).1 :=
  ite_of_both (P := fun out : State × List Byte => LockedKept c e s out.1) ha hb

/-- A request that is refused where it is judged, and answered after its work otherwise. -/
theorem judged {p : Prop} [Decidable p] {r : Result} {b : State × List Byte} (hb : LockedKept c e s b.1) :
    LockedKept c e s (if p then refuse r s else b).1 := either .refl hb

theorem accepted (h : LockedKept c e s t) (r : Result) : LockedKept c e s (accept r t).1 := h

theorem answered (h : LockedKept c e s t) (reply : List Byte) : LockedKept c e s (t, reply).1 := h

end LockedKept

/-! ### The requests, block by block -/

/-- A request keeps the locked Fault Records, unless it clears, and the full latches, unless it empties. -/
def KeepsLocked (clears empties : Bool) (serve : Request) : Prop := ∀ body s, LockedKept clears empties s (serve body s).1

section
variable {c e : Bool} {n : Nat}

theorem keepsLocked_withLane {serve : LaneId → Request} (h : ∀ l, KeepsLocked c e (serve l)) : KeepsLocked c e (withLane n serve) := by
  intro body s
  obtain ⟨l, eq⟩ | ⟨r, eq⟩ := withLane_cases n serve body s
  · exact eq ▸ h l body s
  · exact eq ▸ .refl

theorem keepsLocked_withScope {serve : Scope → Request} (h : ∀ scope, KeepsLocked c e (serve scope)) :
    KeepsLocked c e (withScope n serve) := by
  intro body s
  obtain ⟨scope, eq⟩ | ⟨r, eq⟩ := withScope_cases n serve body s
  · exact eq ▸ h scope body s
  · exact eq ▸ .refl

theorem keepsLocked_withLength {serve : Request} (h : KeepsLocked c e serve) : KeepsLocked c e (withLength n serve) := by
  intro body s
  obtain eq | ⟨r, eq⟩ := withLength_cases n serve body s
  · exact eq ▸ h body s
  · exact eq ▸ .refl

/-! The requests that leave every lane section as it is. -/

theorem keepsLocked_identify : KeepsLocked c e serveIdentify := keepsLocked_withLength fun _ _ => .refl
theorem keepsLocked_getTime : KeepsLocked c e serveGetTime := keepsLocked_withLength fun _ _ => .refl
theorem keepsLocked_setTime : KeepsLocked c e serveSetTime := keepsLocked_withLength fun _ _ => .judged (LockedKept.refl.lanes rfl)
theorem keepsLocked_resetDevice : KeepsLocked c e serveResetDevice := keepsLocked_withLength fun _ _ => LockedKept.refl.lanes rfl
theorem keepsLocked_filterConfig : KeepsLocked c e serveFilterConfig := keepsLocked_withLength fun _ _ =>
  .judged (LockedKept.refl.lanes rfl)

theorem keepsLocked_symbologyWrite : KeepsLocked c e serveSymbologyWrite := by
  intro body s
  refine .judged (.judged ?_)
  split
  · exact .refl
  · exact LockedKept.refl.lanes rfl

theorem keepsLocked_keymapRead : KeepsLocked c e serveKeymapRead := keepsLocked_withLane fun _ _ _ => .judged .refl
theorem keepsLocked_unknown : KeepsLocked c e serveUnknown := fun _ _ => .refl

/-! The requests that change a lane section, its Fault Record and its latch apart. -/

theorem keepsLocked_laneConfig : KeepsLocked c e serveLaneConfig := keepsLocked_withLane fun l body s => by
  have configured : LockedKept c e s (withConfig l (clampLane (laneGiven body)) s) := LockedKept.refl.modLane
  exact .judged (.judged (.judged ((configured.recompute s).accepted _)))

theorem keepsLocked_start : KeepsLocked c e serveStart := keepsLocked_withLane fun _ _ _ =>
  .judged (LockedKept.refl.modLane.offer.accepted _)
theorem keepsLocked_stop : KeepsLocked c e serveStop := keepsLocked_withLane fun _ _ _ => .either LockedKept.refl.stopLane .refl
theorem keepsLocked_linesSet : KeepsLocked c e serveLinesSet := keepsLocked_withLane fun _ _ _ =>
  .judged (LockedKept.refl.modLane.accepted _)
theorem keepsLocked_linesDir : KeepsLocked c e serveLinesDir := keepsLocked_withLane fun _ _ _ =>
  .judged (LockedKept.refl.modLane.accepted _)
theorem keepsLocked_linesRead (outside : Outside) : KeepsLocked c e (serveLinesRead outside) := keepsLocked_withLane fun _ _ _ =>
  LockedKept.refl.modLane.answered _

theorem keepsLocked_keymapWrite : KeepsLocked c e serveKeymapWrite := by
  intro body s
  unfold serveKeymapWrite
  refine .either ?_ (keepsLocked_withLane (fun l body s => .judged ?_) body s)
  · split
    · exact .judged .refl
    · exact .refl
  · split
    · exact .refl
    · exact .judged (LockedKept.refl.modLane.accepted _)

theorem keepsLocked_portConfig : KeepsLocked c e servePortConfig := keepsLocked_withLane fun _ _ _ => by
  split
  · exact .judged (.judged LockedKept.refl.modPort)
  · exact .refl

theorem keepsLocked_scannerSend : KeepsLocked c e serveScannerSend := by
  intro body s
  unfold serveScannerSend
  refine .either ?_ (keepsLocked_withLane (fun l body s => ?_) body s)
  · split
    · exact .judged .refl
    · exact .refl
  · split
    · exact .refl
    · refine .judged ?_
      split
      · exact .refl
      · exact LockedKept.refl.modPort

theorem keepsLocked_forget : KeepsLocked c e serveForget := keepsLocked_withLane fun _ _ _ => LockedKept.refl.clearRecent
theorem keepsLocked_fetch : KeepsLocked c e serveFetch := keepsLocked_withLane fun _ _ _ => LockedKept.refl.removeOldest
theorem keepsLocked_purge : KeepsLocked c e servePurge := keepsLocked_withLane fun _ _ _ => LockedKept.refl.removeOldest

theorem keepsLocked_drawerConfig : KeepsLocked c e serveDrawerConfig := keepsLocked_withLane fun _ _ _ =>
  .judged (LockedKept.refl.modLane.takeDebounced.accepted _)

theorem keepsLocked_kick : KeepsLocked c e serveKick := keepsLocked_withLane fun _ _ _ => by
  split
  · exact .refl
  · exact LockedKept.refl.modDrawer

theorem keepsLocked_status : KeepsLocked c e serveStatus := keepsLocked_withScope fun scope _ _ => by
  cases scope with
  | lane l => exact LockedKept.refl.modLane.answered _
  | device => exact LockedKept.refl.lanes rfl

theorem keepsLocked_ackFlags : KeepsLocked c e serveAckFlags := keepsLocked_withScope fun scope _ s => by
  refine .judged ?_
  cases scope with
  | lane l => exact LockedKept.refl.modLane.answered _
  | device => exact ite_of_both (P := LockedKept c e s) (LockedKept.refl.lanes rfl) .refl

theorem keepsLocked_attnMask : KeepsLocked c e serveAttnMask := keepsLocked_withScope fun scope _ _ => by
  refine .judged ?_
  cases scope with
  | lane l => exact LockedKept.refl.modLane.accepted _
  | device => exact LockedKept.refl.lanes rfl

theorem keepsLocked_clearCounters : KeepsLocked c e serveClearCounters := keepsLocked_withLane fun _ _ _ =>
  LockedKept.refl.modLane.accepted _

/-! The requests that write a Fault Record or a latch. -/

/-- LATCH_COUNTERS fills empty latches alone (R174). -/
theorem keepsLocked_latchCounters : KeepsLocked c e serveLatchCounters := keepsLocked_withLength fun body s => by
  refine .judged ⟨fun k _ => ?_, fun k _ => ?_⟩
  · rw [State.lane_mapLanes]
    exact ite_of_both (P := fun L : Lane => FaultKept _ L.fault) (.refl _) (.refl _)
  · rw [State.lane_mapLanes]
    exact latchKept_latchLane _ _ _ _

/-- CLEAR_FAULT touches no latch (R172). -/
theorem keepsLocked_clearFault : KeepsLocked true e serveClearFault := keepsLocked_withLane fun l _ s => by
  have cleared : LockedKept true e s (s.modLane l fun L => { L with fault := {} }) := LockedKept.refl.change nofun fun _ => .refl _
  exact cleared.answered _

/-- READ_COUNTERS touches no Fault Record (R175). -/
theorem keepsLocked_readCounters : KeepsLocked c true serveReadCounters := keepsLocked_withLane fun l _ s => by
  have emptied : LockedKept c true s (s.modLane l fun L => { L with counterLatch := none }) :=
    LockedKept.refl.change (fun _ => .refl _) nofun
  dsimp only
  split
  · exact emptied.answered _
  · exact .refl

end

/-- Every block but those of RESET_LANE, CLEAR_FAULT and READ_COUNTERS keeps both. -/
theorem keepsLocked_other (c e : Bool) (outside : Outside) {kind : Byte} (reset : kind ≠ 0x13) (clear : kind ≠ 0x4B)
    (read : kind ≠ 0x4D) : KeepsLocked c e (requestOf outside kind) := by
  unfold requestOf
  simp only [if_neg reset, if_neg clear, if_neg read]
  repeat' apply ite_of_both (P := KeepsLocked c e)
  exacts [keepsLocked_identify, keepsLocked_getTime, keepsLocked_setTime, keepsLocked_resetDevice, keepsLocked_laneConfig,
    keepsLocked_start, keepsLocked_stop, keepsLocked_linesSet, keepsLocked_linesDir, keepsLocked_linesRead outside,
    keepsLocked_keymapWrite, keepsLocked_keymapRead, keepsLocked_portConfig, keepsLocked_scannerSend, keepsLocked_filterConfig,
    keepsLocked_symbologyWrite, keepsLocked_forget, keepsLocked_fetch, keepsLocked_purge, keepsLocked_drawerConfig,
    keepsLocked_kick, keepsLocked_status, keepsLocked_ackFlags, keepsLocked_attnMask, keepsLocked_latchCounters,
    keepsLocked_clearCounters, keepsLocked_unknown]

/-- A request keeps the Fault Records and the latches by the marks of its kind (R172, R175). -/
theorem keepsLocked_requestOf (outside : Outside) (kind : Byte) :
    KeepsLocked (decide (kind ∈ ([0x4B, 0x13] : List Byte))) (decide (kind ∈ ([0x4D, 0x13] : List Byte))) (requestOf outside kind) := by
  by_cases reset : kind = 0x13
  · subst reset
    exact fun _ _ => .of_both
  · by_cases clear : kind = 0x4B
    · subst clear
      exact keepsLocked_clearFault
    · by_cases read : kind = 0x4D
      · subst read
        exact keepsLocked_readCounters
      · exact keepsLocked_other _ _ outside reset clear read

/-! ### Frames and commands -/

theorem LockedKept.frameCompletes {c e : Bool} {serve : Request} (h : KeepsLocked c e serve) (kind : Byte) (body : List Byte)
    (s : State) : LockedKept c e s (frameCompletes serve kind body s) := by
  have hunting : LockedKept c e s (received s) := LockedKept.refl.lanes rfl
  exact ite_of_both hunting (ite_of_both (hunting.lanes rfl) ((hunting.trans (h body (received s))).lanes rfl))

/-- The marks of a command that is a frame are those of its kind. -/
theorem marks_of_frame {i : Instr} {kind : Byte} {body : List Byte} (h : requestFrame i = some (kind, body)) :
    clearsFault i = decide (kind ∈ ([0x4B, 0x13] : List Byte)) ∧ emptiesLatch i = decide (kind ∈ ([0x4D, 0x13] : List Byte)) := by
  cases i <;> cases h <;> exact ⟨rfl, rfl⟩

/-- What every command does to the Fault Records and the latches, by its marks, before the outputs are judged. -/
theorem exec_lockedKept (i : Instr) (s : State) :
    ∃ t, exec i s = done t ∧ LockedKept (clearsFault i) (emptiesLatch i) s t := by
  have start : ∀ {c e : Bool}, LockedKept c e s s := .refl
  cases h : requestFrame i with
  | some frame =>
    obtain ⟨kind, body⟩ := frame
    obtain ⟨outside, eq⟩ := exec_frame h s
    obtain ⟨clears, empties⟩ := marks_of_frame h
    refine ⟨_, eq, ?_⟩
    rw [clears, empties]
    exact .frameCompletes (keepsLocked_requestOf outside kind) kind body s
  | none =>
    cases i
    case badFrame | resetDeviceActs | powerOnReset => exact ⟨_, rfl, .of_both⟩
    case gapLimitExpiry => exact ⟨_, rfl, ite_of_both (start.lanes rfl) start⟩
    case replySent | inhNReleased | systemLineStartBit => exact ⟨_, rfl, start.lanes rfl⟩
    case samplePassEnd => exact ⟨_, rfl, start.samplePass⟩
    case scannerCharacterReceived => exact ⟨_, rfl, start.receiveChar⟩
    case gapTimerExpiry => exact ⟨_, rfl, start.gapExpires⟩
    case growthReport => exact ⟨_, rfl, start.takeGrowth⟩
    case transmitByteSent | scannerStartBit => exact ⟨_, rfl, start.modPort⟩
    case replyTimerExpiry => exact ⟨_, rfl, start.replyExpires⟩
    case rawSensorChange => exact ⟨_, rfl, start.senseLevel⟩
    case debouncedChange => exact ⟨_, rfl, start.takeDebounced⟩
    case pulseTimerExpiry => exact ⟨_, rfl, start.pulseExpires⟩
    case retryTimerExpiry => exact ⟨_, rfl, start.retryExpires⟩
    case openTimerExpiry => exact ⟨_, rfl, start.openExpires⟩
    case inhNAsserted => exact ⟨_, rfl, start.assertInhibit⟩
    all_goals cases h

/-- What a command has done to the Fault Records and the latches when its outputs have been judged. -/
theorem lockedKept_of_exec {i : Instr} {s t : State} (h : exec i s = .next t) :
    LockedKept (clearsFault i) (emptiesLatch i) s t := by
  obtain ⟨u, eq, kept⟩ := exec_lockedKept i s
  cases eq.symm.trans h
  exact kept.settle

/-- Settles O52. -/
theorem lockedFaultAndLatchKept : Obligations.LockedFaultAndLatchKept :=
  ⟨⟨fun _ _ _ _ _ => rfl, fun _ l _ _ h keeps => (lockedKept_of_exec h).fault l keeps⟩,
    fun _ l image _ _ h keeps => (lockedKept_of_exec h).latch l keeps image⟩

end Sys2Proof.Machine
end

section
/-! PROOFS. O46 to O51: the requests of the Attention Unit (chapter 9). How a request that names a lane or the device is judged and
answered is said once; the bytes of a status and of a counter image are then read field by field. -/

namespace Sys2Proof.Machine

open Sys2Proof.Claims

/-! ### Judged by lane, by scope and by length (R188) -/

section

variable {n : Nat} {b : Byte} {rest : List Byte} {s : State}

theorem withLane_badLane (serve : LaneId → Request) (h : 4 ≤ b.toNat) : withLane n serve (b :: rest) s = refuse .badLane s :=
  dif_neg (Nat.not_lt.mpr h)

theorem withLane_badLength (serve : LaneId → Request) (h : b.toNat < 4) (hlen : rest.length + 1 ≠ n) :
    withLane n serve (b :: rest) s = refuse .badLength s :=
  (dif_pos h).trans (if_neg hlen)

theorem withScope_badLane (serve : Scope → Request) (h : 4 ≤ b.toNat) (device : b ≠ 0xFF) :
    withScope n serve (b :: rest) s = refuse .badLane s :=
  (dif_neg (Nat.not_lt.mpr h)).trans (if_neg device)

theorem withScope_badLength (serve : Scope → Request) (h : b.toNat < 4 ∨ b = 0xFF) (hlen : rest.length + 1 ≠ n) :
    withScope n serve (b :: rest) s = refuse .badLength s := by
  obtain lane | rfl := h
  · exact (dif_pos lane).trans (if_neg hlen)
  · exact if_neg hlen

/-- A body of the right length that names a lane is judged for that lane. -/
theorem withScope_lane (serve : Scope → Request) (l : LaneId) (hlen : rest.length + 1 = n) :
    withScope n serve (laneByte l :: rest) s = serve (.lane l) (laneByte l :: rest) s := by
  simp [withScope, laneByte, toNat_byteOf_lane, hlen]

/-- A body of the right length that names the device is judged for it. -/
theorem withScope_device (serve : Scope → Request) (hlen : rest.length + 1 = n) :
    withScope n serve (0xFF :: rest) s = serve .device (0xFF :: rest) s :=
  if_pos hlen

end

theorem toNat_laneByte_lt (l : LaneId) : (laneByte l).toNat < 4 := by
  rw [laneByte, toNat_byteOf_lane]
  exact l.isLt

/-! ### A request and the block that serves it -/

/-- A request is the frame of a kind, and a block serves it. -/
structure ServedBy (request : List Byte → Instr) (kind : Byte) (serve : Request) : Prop where
  known : kind.toNat < 0x80
  frame : ∀ body, requestFrame (request body) = some (kind, body)
  effect : ∀ body s, exec (request body) s = done (frameCompletes serve kind body s)

namespace ServedBy

variable {request : List Byte → Instr} {kind : Byte} {n : Nat} {s : State}

/-- A request on a part that serves it: what its block does, and its reply. -/
theorem answers {serve : Request} (h : ServedBy request kind serve) (hs : Serves s) {body reply : List Byte} {t : State}
    (served : serve body (received s) = (t, reply)) : exec (request body) s = .next (replied kind body reply t) := by
  rw [h.effect, done, frameCompletes_serves hs serve h.known, served]

theorem refused {serve : Request} (h : ServedBy request kind serve) (hs : Serves s) {body : List Byte} {r : Result}
    (refusal : serve body (received s) = refuse r (received s)) : RefusedAs (request body) (resultByte r) s :=
  ⟨kind, body, h.frame body, h.answers hs refusal⟩

theorem laneJudged {serve : LaneId → Request} (h : ServedBy request kind (withLane n serve)) : LaneJudged request n := fun _ hs =>
  ⟨fun _ _ bad => h.refused hs (r := .badLane) (withLane_badLane serve bad), h.refused hs (r := .badLength) rfl,
    fun l _ hlen => h.refused hs (r := .badLength) (withLane_badLength serve (toNat_laneByte_lt l) hlen)⟩

theorem scopeJudged {serve : Scope → Request} (h : ServedBy request kind (withScope n serve)) : ScopeJudged request n := fun _ hs =>
  ⟨fun _ _ bad device => h.refused hs (r := .badLane) (withScope_badLane serve bad device), h.refused hs (r := .badLength) rfl,
    fun _ _ named hlen => h.refused hs (r := .badLength) (withScope_badLength serve named hlen)⟩

theorem lane {serve : LaneId → Request} (h : ServedBy request kind (withLane n serve)) (hs : Serves s) {l : LaneId}
    {rest reply : List Byte} {t : State} (hlen : rest.length + 1 = n) (served : serve l (laneByte l :: rest) (received s) = (t, reply)) :
    exec (request (laneByte l :: rest)) s = .next (replied kind (laneByte l :: rest) reply t) :=
  h.answers hs ((withLane_lane serve l hlen).trans served)

theorem scopeLane {serve : Scope → Request} (h : ServedBy request kind (withScope n serve)) (hs : Serves s) {l : LaneId}
    {rest reply : List Byte} {t : State} (hlen : rest.length + 1 = n)
    (served : serve (.lane l) (laneByte l :: rest) (received s) = (t, reply)) :
    exec (request (laneByte l :: rest)) s = .next (replied kind (laneByte l :: rest) reply t) :=
  h.answers hs ((withScope_lane serve l hlen).trans served)

theorem scopeDevice {serve : Scope → Request} (h : ServedBy request kind (withScope n serve)) (hs : Serves s)
    {rest reply : List Byte} {t : State} (hlen : rest.length + 1 = n) (served : serve .device (0xFF :: rest) (received s) = (t, reply)) :
    exec (request (0xFF :: rest)) s = .next (replied kind (0xFF :: rest) reply t) :=
  h.answers hs ((withScope_device serve hlen).trans served)

theorem ofLength {serve : Request} (h : ServedBy request kind (withLength n serve)) (hs : Serves s) {body reply : List Byte}
    {t : State} (hlen : body.length = n) (served : serve body (received s) = (t, reply)) :
    exec (request body) s = .next (replied kind body reply t) :=
  h.answers hs ((if_pos hlen).trans served)

end ServedBy

theorem status_served : ServedBy .status 0x48 serveStatus := ⟨by decide, fun _ => rfl, fun _ _ => rfl⟩
theorem ackFlags_served : ServedBy .ackFlags 0x49 serveAckFlags := ⟨by decide, fun _ => rfl, fun _ _ => rfl⟩
theorem attnMask_served : ServedBy .attnMask 0x4A serveAttnMask := ⟨by decide, fun _ => rfl, fun _ _ => rfl⟩
theorem clearFault_served : ServedBy .clearFault 0x4B serveClearFault := ⟨by decide, fun _ => rfl, fun _ _ => rfl⟩
theorem latchCounters_served : ServedBy .latchCounters 0x4C serveLatchCounters := ⟨by decide, fun _ => rfl, fun _ _ => rfl⟩
theorem readCounters_served : ServedBy .readCounters 0x4D serveReadCounters := ⟨by decide, fun _ => rfl, fun _ _ => rfl⟩
theorem clearCounters_served : ServedBy .clearCounters 0x4E serveClearCounters := ⟨by decide, fun _ => rfl, fun _ _ => rfl⟩

/-! ### Flags and masks (R162, R163, Table 11-5) -/

/-- The flags of a lane, bit by bit: the sticky ones between DATA, bit 0, and FAULT, bit 6. -/
theorem getLsbD_laneFlags (L : Lane) (i : Nat) :
    (laneFlags L).getLsbD i =
      (L.sticky.getLsbD i && stickyFlags.getLsbD i || !L.queue.isEmpty && decide (0 = i) || L.fault.locked && decide (6 = i)) := by
  have data : flagData = BitVec.twoPow 8 0 := rfl
  have fault : flagFault = BitVec.twoPow 8 6 := rfl
  rw [laneFlags, data, fault]
  cases L.queue.isEmpty <;> cases L.fault.locked <;> simp [BitVec.getLsbD_and, BitVec.getLsbD_twoPow]

theorem laneFlags_sticky (L : Lane) : laneFlags L &&& stickyFlags = L.sticky &&& 0x3E := by
  unfold laneFlags stickyFlags
  cases L.queue.isEmpty <;> cases L.fault.locked <;> simp [flagData, flagFault, BitVec.and_or_distrib_right, BitVec.and_assoc]

theorem laneFlags_lt (L : Lane) : (laneFlags L).toNat < 128 := by
  have high : (laneFlags L).msb = false := by
    rw [BitVec.msb_eq_getLsbD_last, getLsbD_laneFlags]
    simp [stickyFlags]
  have := BitVec.msb_eq_false_iff_two_mul_lt.mp high
  omega

theorem deviceFlags_bits (s : State) :
    (deviceFlags s).getLsbD 0 = s.link ∧ (deviceFlags s).getLsbD 1 = s.inhibit ∧ (deviceFlags s).toNat < 4 := by
  have bits : ∀ link inhibit : Bool,
      let flags := (if link then flagLink else 0) ||| (if inhibit then flagInhibit else 0)
      flags.getLsbD 0 = link ∧ flags.getLsbD 1 = inhibit ∧ flags.toNat < 4 := by decide
  exact bits s.link s.inhibit

/-- A mask names LINK by its bit 0 (Table 11-5). -/
theorem and_flagLink (mask : Byte) : mask &&& flagLink ≠ 0 ↔ mask.getLsbD 0 = true := by
  have bit : mask &&& flagLink = _ := BitVec.and_one_eq_setWidth_ofBool_getLsbD
  rw [bit]
  cases mask.getLsbD 0 <;> decide

/-- Bits taken out of a set, whether or not they are in it. -/
theorem and_not_and (mask set : Byte) : set &&& ~~~(mask &&& set) = set &&& ~~~mask := by
  ext i h
  cases hs : set[i] <;> simp [hs]

theorem laneFlags_bits (L : Lane) :
    (laneFlags L).getLsbD 0 = !L.queue.isEmpty ∧
      (∀ i, 1 ≤ i → i ≤ 5 → (laneFlags L).getLsbD i = L.sticky.getLsbD i) ∧
      (laneFlags L).getLsbD 6 = L.fault.locked ∧ (laneFlags L).toNat < 128 := by
  have sticky : ∀ i, 1 ≤ i → i ≤ 5 → stickyFlags.getLsbD i = true := fun i low high => by interval_cases i <;> rfl
  have data : stickyFlags.getLsbD 0 = false := rfl
  have fault : stickyFlags.getLsbD 6 = false := rfl
  refine ⟨?_, fun i low high => ?_, ?_, laneFlags_lt L⟩
  all_goals rw [getLsbD_laneFlags]
  · rw [data]
    simp
  · simp [sticky i low high, show 0 ≠ i by omega, show 6 ≠ i by omega]
  · rw [fault]
    simp

/-! ### O46: STATUS (R162 to R165, Tables 11-4, 11-5, 11-10 to 11-12) -/

/-- The HOLD and slot byte, bit by bit (Table 11-5). -/
theorem holdSlotByte_bits (L : Lane) :
    (holdSlotByte L).getLsbD 0 = L.portA.hold ∧ (holdSlotByte L).getLsbD 1 = L.portB.hold ∧
      (holdSlotByte L).getLsbD 2 = L.portA.slot.isSome ∧ (holdSlotByte L).getLsbD 3 = L.portB.slot.isSome ∧
      (holdSlotByte L).toNat < 16 := by
  have bits : ∀ a b c d : Bool,
      let byte := byteOf (a.toNat + 2 * b.toNat + 4 * c.toNat + 8 * d.toNat)
      byte.getLsbD 0 = a ∧ byte.getLsbD 1 = b ∧ byte.getLsbD 2 = c ∧ byte.getLsbD 3 = d ∧ byte.toNat < 16 := by decide
  exact bits ..

theorem byteOf_laneStateNum (r : LaneState) : byteOf (laneStateNum r) = if r = .running then 0x01 else 0x00 := by
  cases r <;> rfl

theorem byteOf_drawerStateNum (st : DrawerState) : byteOf (drawerStateNum st) = drawerByte st := by cases st <;> rfl

theorem byteOf_lockNum (lock : LockPos) : byteOf (lockNum lock) = lockByte lock := by cases lock <;> rfl

theorem byteOf_expectNum (expect : Expect) : byteOf (expectNum expect) = expectByte expect := by cases expect <;> rfl

/-- The Fault Record image is Table 11-12's, with the values of Table 11-4. -/
theorem faultImage_eq (r : FaultRecord) : faultImage r = faultBytes r := by
  obtain ⟨locked, kind, source, time, detail, further⟩ := r
  cases source with
  | port p => cases p <;> cases kind <;> rfl
  | none | keyboard | drawer => cases kind <;> rfl

/-- The reply of a lane STATUS in the bytes of Table 11-11. -/
theorem laneStatus_eq (s : State) (l : LaneId) :
    laneStatus s l =
      [0x00, laneByte l, if (s.lane l).run = .running then 0x01 else 0x00, drawerByte (s.lane l).drawer.st,
          lockByte (s.lane l).lock] ++ le16 (occupancy (s.lane l)) ++ le16 (headroom s l) ++
        [if (s.lane l).storeHigh then 0x01 else 0x00, holdSlotByte (s.lane l), expectByte (s.lane l).portA.expect,
          expectByte (s.lane l).portB.expect, byteOf (s.lane l).lost, laneFlags (s.lane l)] ++ faultBytes (s.lane l).fault := by
  simp only [laneStatus, byteOf_laneStateNum, byteOf_drawerStateNum, byteOf_lockNum, byteOf_expectNum, faultImage_eq]
  rfl

/-- Settles O46. -/
theorem statusReportsAndMarks : Obligations.StatusReportsAndMarks := by
  refine ⟨holdSlotByte_bits, laneFlags_bits, deviceFlags_bits, ⟨rfl, rfl, rfl, rfl, rfl⟩, fun _ _ _ => rfl,
    status_served.scopeJudged, fun s hs => ⟨fun l => ?_, status_served.scopeDevice hs rfl rfl⟩⟩
  refine status_served.scopeLane hs rfl ?_
  dsimp only
  simp only [laneStatus_eq, laneFlags_sticky]
  rfl

/-! ### O47 and O48: ACK_FLAGS and ATTN_MASK (R166, R168) -/

/-- A bit above FAULT names no flag of a lane (Table 11-5). -/
theorem not_maskDefined_lane (l : LaneId) (mask : Nat) : (!maskDefined (.lane l) mask) = true ↔ 128 ≤ mask :=
  not_bitsBelow_iff 7 mask

/-- A bit above INHIBIT names no flag of the device (Table 11-5). -/
theorem not_maskDefined_device (mask : Nat) : (!maskDefined .device mask) = true ↔ 4 ≤ mask := not_bitsBelow_iff 2 mask

/-- The flags acknowledged leave the sticky and the reported set (R166). -/
theorem ackLane_eq (mask : Byte) (L : Lane) :
    ackLane mask L = { L with sticky := L.sticky &&& ~~~(mask &&& L.reported), reported := L.reported &&& ~~~mask } := by
  rw [ackLane, and_not_and]

theorem ackDevice_eq (mask : Byte) (s : State) :
    ackDevice mask s =
      if mask.getLsbD 0 = true ∧ s.linkReported = true then { s with link := false, linkReported := false } else s := by
  simp only [ackDevice, and_flagLink]

/-- Settles O47. -/
theorem ackClearsOnlyReported : Obligations.AckClearsOnlyReported := by
  refine ⟨ackFlags_served.scopeJudged, fun mask s hs => ⟨fun l => ⟨fun defined => ?_, fun undefined => ?_⟩, fun defined => ?_,
    fun undefined => ?_⟩⟩
  · refine ackFlags_served.scopeLane hs rfl ((if_neg (mt (not_maskDefined_lane l _).mp (Nat.not_le.mpr defined))).trans ?_)
    simp only [State.lane_modLane_same]
    rw [← ackLane_eq]
    rfl
  · exact ⟨0x49, _, rfl, ackFlags_served.scopeLane hs rfl (if_pos ((not_maskDefined_lane l _).mpr undefined))⟩
  · refine ackFlags_served.scopeDevice hs rfl ((if_neg (mt (not_maskDefined_device _).mp (Nat.not_le.mpr defined))).trans ?_)
    dsimp only
    rw [ackDevice_eq]
    rfl
  · exact ⟨0x49, _, rfl, ackFlags_served.scopeDevice hs rfl (if_pos ((not_maskDefined_device _).mpr undefined))⟩

/-- Settles O48. -/
theorem attnMaskReplacesEnables : Obligations.AttnMaskReplacesEnables :=
  ⟨attnMask_served.scopeJudged, fun _ _ hs =>
    ⟨fun l =>
      ⟨fun defined => attnMask_served.scopeLane hs rfl (if_neg (mt (not_maskDefined_lane l _).mp (Nat.not_le.mpr defined))),
        fun undefined => ⟨0x4A, _, rfl, attnMask_served.scopeLane hs rfl (if_pos ((not_maskDefined_lane l _).mpr undefined))⟩⟩,
      fun defined => attnMask_served.scopeDevice hs rfl (if_neg (mt (not_maskDefined_device _).mp (Nat.not_le.mpr defined))),
      fun undefined => ⟨0x4A, _, rfl, attnMask_served.scopeDevice hs rfl (if_pos ((not_maskDefined_device _).mpr undefined))⟩⟩⟩

/-! ### O49: CLEAR_FAULT (R172) -/

/-- Settles O49. -/
theorem clearFaultReturnsAndUnlocks : Obligations.ClearFaultReturnsAndUnlocks := by
  refine ⟨clearFault_served.laneJudged, fun l s hs => ⟨clearFault_served.lane hs rfl ?_, ?_, fun zeroed => ?_⟩⟩
  · rw [← faultImage_eq]
    rfl
  · obtain ⟨-, -, fault, -⟩ := laneFlags_bits { s.lane l with fault := {} }
    exact fault
  · rw [zeroed]
    decide

/-! ### O50 and O51: the counters (R173 to R176) -/

/-- The twelve counters are sent in the order of their indices (Table 11-10). -/
theorem counterBytes_eq (values : Vector (BitVec 32) 12) :
    counterBytes values = (List.finRange 12).flatMap fun i => le32 values[i].toNat := by
  have listed : values.toList = (List.finRange 12).map fun i => values[i] := by
    refine List.ext_getElem (by simp) fun i _ _ => ?_
    simp
  rw [counterBytes, listed, List.flatMap_map]

/-- Settles O50. -/
theorem countersReadLatchedOrLive : Obligations.CountersReadLatchedOrLive := by
  refine ⟨counterBytes_eq, readCounters_served.laneJudged, fun l s hs => ⟨fun image full => ?_, fun empty => ?_⟩⟩
  · refine readCounters_served.lane hs rfl ?_
    simp only [lane_received, full]
    rfl
  · refine readCounters_served.lane hs rfl ?_
    simp only [lane_received, empty]
    rfl

/-- The place of a counter in Table 9-3 is its index. -/
theorem counterIndex_of_mem_counterPlaces : ∀ place ∈ counterPlaces, place.2 = counterIndex place.1 := by decide

/-- The lanes that a LATCH_COUNTERS has latched, as they are sent (Table 11-10). -/
theorem latchedMask_eq (mask : Byte) (s : State) :
    latchedMask mask s = (latches mask 0 (s.lane 0)).toNat + 2 * (latches mask 1 (s.lane 1)).toNat +
      4 * (latches mask 2 (s.lane 2)).toNat + 8 * (latches mask 3 (s.lane 3)).toNat := by
  have weighed : ∀ a b c d : Bool, ((if a then 2 ^ 0 else 0) + ((if b then 2 ^ 1 else 0) + ((if c then 2 ^ 2 else 0) +
      ((if d then 2 ^ 3 else 0) + 0))) : Nat) = a.toNat + 2 * b.toNat + 4 * c.toNat + 8 * d.toNat := by decide
  exact weighed ..

/-- Settles O51. -/
theorem countersLatchedAndCleared : Obligations.CountersLatchedAndCleared := by
  refine ⟨fun l c i s place => ?_, fun s hs => ⟨fun body hlen => ?_, fun mask defined => ?_, fun mask undefined => ?_, fun l => ?_⟩⟩
  · obtain rfl : i = counterIndex c := counterIndex_of_mem_counterPlaces _ place
    rfl
  · exact latchCounters_served.refused hs (r := .badLength) (if_neg hlen)
  · refine latchCounters_served.ofLength hs rfl ((if_neg (mt (not_bitsBelow_iff 4 _).mp (Nat.not_le.mpr defined))).trans ?_)
    rw [latchedMask_eq]
    rfl
  · exact ⟨0x4C, _, rfl, latchCounters_served.ofLength hs rfl (if_pos ((not_bitsBelow_iff 4 _).mpr undefined))⟩
  · exact clearCounters_served.lane hs rfl rfl

end Sys2Proof.Machine
end

section
/-! PROOFS. O3 and O6: what the requests leave alone. No request and no event of a lane reaches the queue of waiting commands, the
frame receiver or the holding area; a request is refused with nothing changed, or answered OK or CLAMPED. Every block of the
dispatcher is judged for this once. -/

namespace Sys2Proof.Machine

/-! ### What stays with the system line -/

/-- The queue of waiting commands, and the frame receiver with its gap limit: what no good frame touches. -/
def queueAndReceiver (s : State) : List Instr × LineRx × Option Nat := (s.pending, s.rx, s.lineGap)

/-- What no request and no event of a lane touches: the holding area too. -/
def lineView (s : State) : (List Instr × LineRx × Option Nat) × List HeldFrame := (queueAndReceiver s, s.area)

theorem LaneWork.lineView {l : LaneId} {s t : State} (h : LaneWork l s t) : lineView t = lineView s :=
  (congrArg Machine.lineView h.device :)

theorem LaneWork.pending {l : LaneId} {s t : State} (h : LaneWork l s t) : t.pending = s.pending :=
  (congrArg State.pending h.device :)

theorem lineView_stopLane (l : LaneId) (s : State) : lineView (stopLane l s) = lineView s := by
  have halted : LaneWork l s (s.modLane l haltedLane) := LaneWork.refl.modLane
  rw [stopLane_eq]
  exact (ite_of_both (P := LaneWork l s) halted.offer halted).modLane.lineView

theorem lineView_removeOldest (l : LaneId) (n : Nat) (s : State) : lineView (removeOldest l n s) = lineView s :=
  ite_of_both (P := fun t => lineView t = lineView s) rfl rfl

/-! ### How a request is answered (R182, R183) -/

/-- What a block makes of a request: a refusal that changes nothing, or an OK or CLAMPED that leaves the system line alone. -/
inductive Answered (s : State) : State × List Byte → Prop
  | refused (r : Result) : Answered s (refuse r s)
  | taken {t : State} {fields : List Byte} (changed : Bool) :
      lineView t = lineView s → Answered s (t, resultByte (okOrClamped changed) :: fields)

namespace Answered

variable {s t : State} {out : State × List Byte}

theorem ok {fields : List Byte} (h : lineView t = lineView s := by rfl) : Answered s (t, resultByte .ok :: fields) := .taken false h

/-- A request refused where it is judged, and answered otherwise. -/
theorem judged {p : Prop} [Decidable p] {r : Result} (h : Answered s out) : Answered s (if p then refuse r s else out) :=
  ite_of_both (P := Answered s) (.refused r) h

theorem lineKept (h : Answered s out) : lineView out.1 = lineView s := by
  cases h with
  | refused => rfl
  | taken _ kept => exact kept

/-- A result that is neither OK nor CLAMPED is a refusal: it stands alone, and nothing has changed. -/
theorem refusal (h : Answered s out) :
    ∃ result fields, out.2 = result :: fields ∧ (result ≠ 0x00 → result ≠ 0x01 → fields = [] ∧ out.1 = s) := by
  cases h with
  | refused r => exact ⟨resultByte r, [], rfl, fun _ _ => ⟨rfl, rfl⟩⟩
  | taken changed _ =>
    refine ⟨_, _, rfl, fun notOk notClamped => ?_⟩
    cases changed with
    | false => exact absurd rfl notOk
    | true => exact absurd rfl notClamped

end Answered

/-- A block answers every request so. -/
def Answering (serve : Request) : Prop := ∀ body s, Answered s (serve body s)

section

variable {n : Nat}

theorem answering_withLane {serve : LaneId → Request} (h : ∀ l, Answering (serve l)) : Answering (withLane n serve) := by
  intro body s
  obtain ⟨l, e⟩ | ⟨r, e⟩ := withLane_cases n serve body s
  · exact e ▸ h l body s
  · exact e ▸ .refused r

theorem answering_withScope {serve : Scope → Request} (h : ∀ scope, Answering (serve scope)) : Answering (withScope n serve) := by
  intro body s
  obtain ⟨scope, e⟩ | ⟨r, e⟩ := withScope_cases n serve body s
  · exact e ▸ h scope body s
  · exact e ▸ .refused r

theorem answering_withLength {serve : Request} (h : Answering serve) : Answering (withLength n serve) := by
  intro body s
  obtain e | ⟨r, e⟩ := withLength_cases n serve body s
  · exact e ▸ h body s
  · exact e ▸ .refused r

end

/-! ### The requests, block by block -/

theorem answering_identify : Answering serveIdentify := answering_withLength fun _ _ => .ok
theorem answering_getTime : Answering serveGetTime := answering_withLength fun _ _ => .ok
theorem answering_setTime : Answering serveSetTime := answering_withLength fun _ _ => .judged .ok
theorem answering_resetDevice : Answering serveResetDevice := answering_withLength fun _ _ => .ok
theorem answering_laneConfig : Answering serveLaneConfig := answering_withLane fun _ _ _ =>
  .judged (.judged (.judged (.taken _ rfl)))
theorem answering_start : Answering serveStart := answering_withLane fun l _ _ =>
  .judged (.ok (LaneWork.refl.change (l := l) _ rfl).offer.lineView)
theorem answering_stop : Answering serveStop := answering_withLane fun l _ s =>
  ite_of_both (P := Answered s) (.ok (lineView_stopLane l s)) .ok
theorem answering_resetLane : Answering serveResetLane := answering_withLane fun _ _ _ => .ok
theorem answering_linesSet : Answering serveLinesSet := answering_withLane fun _ _ _ => .judged .ok
theorem answering_linesDir : Answering serveLinesDir := answering_withLane fun _ _ _ => .judged .ok
theorem answering_linesRead (outside : Outside) : Answering (serveLinesRead outside) := answering_withLane fun _ _ _ => .ok

theorem answering_keymapWrite : Answering serveKeymapWrite := by
  intro body s
  unfold serveKeymapWrite
  refine ite_of_both (P := Answered s) ?_ (answering_withLane (fun l body s => .judged ?_) body s)
  · split
    · exact .judged (.refused _)
    · exact .refused _
  · split
    · exact .refused _
    · exact .judged .ok

theorem answering_keymapRead : Answering serveKeymapRead := answering_withLane fun _ _ _ => .judged .ok

theorem answering_portConfig : Answering servePortConfig := answering_withLane fun _ _ _ => by
  split
  · exact .judged (.judged (.taken _ rfl))
  · exact .refused _

theorem answering_scannerSend : Answering serveScannerSend := by
  intro body s
  unfold serveScannerSend
  refine ite_of_both (P := Answered s) ?_ (answering_withLane (fun l body s => ?_) body s)
  · split
    · exact .judged (.refused _)
    · exact .refused _
  · split
    · exact .refused _
    · refine .judged ?_
      split
      · exact .refused _
      · exact .ok

theorem answering_filterConfig : Answering serveFilterConfig := answering_withLength fun _ _ => .judged (.taken _ rfl)

theorem answering_symbologyWrite : Answering serveSymbologyWrite := by
  intro body s
  refine .judged (.judged ?_)
  split
  · exact .refused _
  · exact .taken _ rfl

theorem answering_forget : Answering serveForget := answering_withLane fun l _ _ =>
  .ok (LaneWork.refl (l := l)).clearRecent.lineView
theorem answering_fetch : Answering serveFetch := answering_withLane fun _ _ _ => .taken _ (lineView_removeOldest ..)
theorem answering_purge : Answering servePurge := answering_withLane fun _ _ _ => .ok (lineView_removeOldest ..)
theorem answering_drawerConfig : Answering serveDrawerConfig := answering_withLane fun l _ _ =>
  .judged (.taken _ (LaneWork.refl.change (l := l) _ rfl).takeDebounced.lineView)

theorem answering_kick : Answering serveKick := answering_withLane fun _ _ _ => by
  split
  · exact .refused _
  · exact .ok

theorem answering_status : Answering serveStatus := answering_withScope fun scope _ _ => by
  cases scope with
  | lane l => exact .ok
  | device => exact .ok

theorem answering_ackFlags : Answering serveAckFlags := answering_withScope fun scope body s => by
  refine .judged ?_
  cases scope with
  | lane l => exact .ok
  | device =>
    have acked : lineView (ackDevice (body.getD 1 0) s) = lineView s := ite_of_both (P := fun t => lineView t = lineView s) rfl rfl
    exact .ok acked

theorem answering_attnMask : Answering serveAttnMask := answering_withScope fun scope _ _ => by
  refine .judged ?_
  cases scope with
  | lane l => exact .ok
  | device => exact .ok

theorem answering_clearFault : Answering serveClearFault := answering_withLane fun _ _ _ => .ok
theorem answering_latchCounters : Answering serveLatchCounters := answering_withLength fun _ _ => .judged .ok

theorem answering_readCounters : Answering serveReadCounters := answering_withLane fun _ _ _ => by
  dsimp only
  split
  · exact .ok
  · exact .ok

theorem answering_clearCounters : Answering serveClearCounters := answering_withLane fun _ _ _ => .ok
theorem answering_unknown : Answering serveUnknown := fun _ _ => .refused _

theorem answering_served (outside : Outside) : ∀ serve ∈ servedBlocks outside, Answering serve := by
  simp only [servedBlocks, List.forall_mem_cons]
  exact ⟨answering_identify, answering_getTime, answering_setTime, answering_resetDevice, answering_laneConfig, answering_start,
    answering_stop, answering_resetLane, answering_linesSet, answering_linesDir, answering_linesRead outside,
    answering_keymapWrite, answering_keymapRead, answering_portConfig, answering_scannerSend, answering_filterConfig,
    answering_symbologyWrite, answering_forget, answering_fetch, answering_purge, answering_drawerConfig, answering_kick,
    answering_status, answering_ackFlags, answering_attnMask, answering_clearFault, answering_latchCounters,
    answering_readCounters, answering_clearCounters, answering_unknown, nofun⟩

theorem answering_requestOf (outside : Outside) (kind : Byte) : Answering (requestOf outside kind) :=
  answering_served outside _ (requestOf_mem outside kind)

/-! ### A good frame, whatever its kind (R181, R186) -/

/-- A good frame reaches neither the queue of waiting commands nor the receiver, served or not. -/
theorem queueAndReceiver_goodFrame (outside : Outside) (kind : Byte) (body : List Byte) (s : State) :
    queueAndReceiver (goodFrame (requestOf outside kind) kind body s) = queueAndReceiver s := by
  have kept := (answering_requestOf outside kind body s).lineKept
  exact ite_of_both (P := fun t => queueAndReceiver t = queueAndReceiver s) rfl
    (ite_of_both (P := fun t => queueAndReceiver t = queueAndReceiver s) rfl (congrArg Prod.fst kept :))

theorem goodFrame_pending (outside : Outside) (kind : Byte) (body : List Byte) (s : State) :
    (goodFrame (requestOf outside kind) kind body s).pending = s.pending :=
  (congrArg Prod.fst (queueAndReceiver_goodFrame outside kind body s) :)

/-! ### O3: the queue of waiting commands -/

theorem takeChars_pending (run : LineRun) (s : State) : (takeChars run s).pending = s.pending := by
  have hunted : ∀ fuel chars t, t.pending = s.pending → (hunt run.outside fuel chars t).pending = s.pending :=
    hunt_keeps (fun _ _ h => h) (fun _ h => h) fun kind body t h => (goodFrame_pending _ kind body t).trans h
  exact ite_of_both (P := fun t : State => t.pending = s.pending) rfl (hunted _ _ _ rfl)

theorem assertInhibit_pending (order : List LaneId) (s : State) : (assertInhibit order s).pending = s.pending :=
  ite_of_both (P := fun t : State => t.pending = s.pending) rfl
    (congrArg State.pending (abortKicks_device (order ++ [0, 1, 2, 3]) { s with inhibit := true }) :)

/-- What every command leaves of the queue before its outputs are judged. -/
theorem exec_pending (i : Instr) (s : State) : ∃ t, exec i s = done t ∧ t.pending = s.pending := by
  cases frame : requestFrame i with
  | some f =>
    obtain ⟨kind, body⟩ := f
    obtain ⟨outside, e⟩ := exec_frame frame s
    exact ⟨_, e, goodFrame_pending outside kind body _⟩
  | none =>
    cases lane : Claims.laneOf i with
    | some l =>
      obtain ⟨t, e, work⟩ := exec_laneWork lane s
      exact ⟨t, e, work.pending⟩
    | none =>
      cases i
      case badFrame run => exact ⟨_, rfl, takeChars_pending run s⟩
      case inhNAsserted order => exact ⟨_, rfl, assertInhibit_pending order s⟩
      case gapLimitExpiry | resetDeviceActs =>
        exact ⟨_, rfl, ite_of_both (P := fun t : State => t.pending = s.pending) rfl rfl⟩
      case replySent | powerOnReset | inhNReleased | systemLineStartBit => exact ⟨_, rfl, rfl⟩
      all_goals injections

/-- Settles O3. -/
theorem commandsLeaveTheQueue : Obligations.CommandsLeaveTheQueue := by
  intro i s t h
  obtain ⟨u, e, kept⟩ := exec_pending i s
  cases e.symm.trans h
  exact kept

/-! ### O6: one reply to a request, and nothing else to a refused one (R182, R183) -/

theorem replyKind_eq (kind : Byte) : replyKind kind = if kind.toNat < 0x80 then kind + 0x80 else 0xFF := by
  unfold replyKind
  by_cases h : kind.toNat < 0x80
  · rw [if_pos h, if_neg (Nat.not_le.mpr h)]
  · rw [if_neg h, if_pos (Nat.not_lt.mp h)]

/-- A frame that finds room and no waiting reset: what its block does, and its reply (R181). -/
theorem frameCompletes_replies {s : State} (h : Serves s) (serve : Request) (kind : Byte) (body : List Byte) :
    frameCompletes serve kind body s =
      { (serve body (received s)).1 with
        area := (serve body (received s)).1.area ++
          [{ kind := kind, body := body, reply := frameBytes (replyKind kind) (serve body (received s)).2 }] } := by
  obtain ⟨notArmed, room⟩ := h
  have armed : ¬ (received s).resetArmed = true := by simp [received, notArmed]
  exact (if_neg armed).trans (if_neg (Nat.not_le.mpr room))

/-- Settles O6. -/
theorem refusedRequestsChangeNothing : Obligations.RefusedRequestsChangeNothing := by
  intro i k b s t frame hs h
  obtain ⟨outside, e⟩ := exec_frame frame s
  have answered := answering_requestOf outside k b (received s)
  obtain ⟨result, fields, reply, refusal⟩ := answered.refusal
  have area : (requestOf outside k b (received s)).1.area = s.area := congrArg Prod.snd answered.lineKept
  rw [frameCompletes_replies hs, reply, area, replyKind_eq] at e
  cases e.symm.trans h
  refine ⟨result, fields, rfl, fun notOk notClamped => ?_⟩
  obtain ⟨alone, same⟩ := refusal notOk notClamped
  exact ⟨alone, by rw [same]; rfl⟩

end Sys2Proof.Machine
end

section
/-! PROOFS. O8 and O9: the frame receiver. A run of characters is read through the judgement of the characters after a start byte:
those of a frame that R178 forms are judged good, and the part then does what that good frame does; those that show a frame bad are
judged so whatever follows them, and the hunt resumes at the character after the start byte. -/

namespace Sys2Proof.Machine

open Sys2Proof.Claims

/-! ### Frames as they are formed (R178, Table 11-3) -/

theorem byteSum_toNat (bytes : List Byte) : (byteSum bytes).toNat = (bytes.map BitVec.toNat).sum % 256 := by
  induction bytes using List.reverseRecOn with
  | nil => rfl
  | append_singleton bytes b ih =>
    rw [byteSum_append_one, BitVec.toNat_add, ih]
    simp

/-- The command of each kind byte of Table 11-3 is its request. -/
theorem requestFrame_of_mem_requestsOf (f : LineFrame) :
    ∀ e : Byte × Instr, e ∈ requestsOf f → requestFrame e.2 = some (e.1, f.body) := by
  simp [requestsOf, requestFrame]

/-! ### Good frames as characters (R179) -/

/-- A request is the good frame of its kind, given the same outside. -/
theorem exec_unknownKind_of_frame {i : Instr} {kind : Byte} {body : List Byte} {outside : Outside}
    (frame : requestFrame i = some (kind, body)) (pins : ∀ given, givenOutside i = some given → given = outside) (s : State) :
    exec (.unknownKind kind { body := body, outside := outside }) s = exec i s := by
  cases i <;> cases frame
  case linesRead | unknownKind | inboundOverrun | frameDiscardedAtReset =>
    obtain rfl := pins _ rfl
    rfl
  all_goals rfl

/-- A receiver that hunts with its gap limit stopped has only the marks of a character in progress to clear. -/
theorem received_of_hunting {s : State} (hrx : s.rx = .hunt) (hgap : s.lineGap = none) :
    { s with lineStart := false, lineDrop := false } = received s := by
  simp only [received, ← hrx, ← hgap]

/-- The characters of a frame, taken by a receiver that hunts with its gap limit stopped, do what the good frame does (R179). -/
theorem exec_frameChars (kind : Byte) {body : List Byte} (fits : body.length ≤ 250) (outside : Outside) {s : State}
    (hrx : s.rx = .hunt) (hgap : s.lineGap = none) (hdrop : s.lineDrop = false) :
    exec (.badFrame { chars := frameChars kind body, outside := outside }) s =
      exec (.unknownKind kind { body := body, outside := outside }) s := by
  have kept := queueAndReceiver_goodFrame outside kind body (received s)
  simp only [queueAndReceiver, Prod.mk.injEq] at kept
  obtain ⟨-, hrx', hgap'⟩ := kept
  show done (takeChars _ s) = done (goodFrame (requestOf outside kind) kind body (received s))
  rw [takeChars_frameChars kind fits outside hrx hdrop, received_of_hunting hrx hgap]
  have again := restartLineGap_hunting (s := settle (goodFrame (requestOf outside kind) kind body (received s))) hrx' hgap'
  exact (congrArg done again).trans (congrArg Host.Outcome.next (settle_settle _))

/-- Settles O8. -/
theorem framesDecodeAsTheyAreFormed : Obligations.FramesDecodeAsTheyAreFormed := by
  refine ⟨fun f => ⟨rfl, requestFrame_of_mem_requestsOf f⟩, fun i kind body outside s frame pins => ?_, fun kind body => ?_,
    byteSum_toNat, fun kind body outside s fits hrx hgap hdrop => exec_frameChars kind fits outside hrx hgap hdrop⟩
  · have same := exec_unknownKind_of_frame frame pins s
    exact ⟨same, fun fits hrx hgap hdrop => (exec_frameChars kind fits outside hrx hgap hdrop).trans same⟩
  · refine ⟨-byteSum (byteOf (body.length + 1) :: kind :: body), rfl, ?_, rfl⟩
    rw [← byteSum_toNat]
    exact congrArg BitVec.toNat (frameBytes_sum kind body)

/-! ### What shows a frame bad (R178, R179) -/

/-- A length of 0 or above 251. -/
theorem judgeFrame_badLength {n : Byte} (h : n.toNat = 0 ∨ 252 ≤ n.toNat) (after : List LineChar) :
    judgeFrame (cleanChar n :: after) = .bad :=
  if_pos (.inr (h.imp_right fun long => (by omega : 251 < n.toNat)))

/-- The characters after a length of 1 to 251 (R178). -/
theorem judgeFrame_length {n : Byte} (low : 1 ≤ n.toNat) (high : n.toNat ≤ 251) (chars : List LineChar) :
    judgeFrame (cleanChar n :: chars) =
      if (chars.take (n.toNat + 1)).any LineChar.damaged then .bad
      else if chars.length < n.toNat + 1 then .incomplete
      else judgeSum n ((chars.take (n.toNat + 1)).map LineChar.value) (chars.drop (n.toNat + 1)) :=
  if_neg fun h => by
    obtain damaged | zero | long := h
    · cases damaged
    · exact absurd (show n.toNat = 0 from zero) (by omega)
    · exact absurd (show 251 < n.toNat from long) (by omega)

/-- A whole frame whose sum is not 0. -/
theorem judgeFrame_badSum {n : Byte} {covered : List Byte} (low : 1 ≤ n.toNat) (high : n.toNat ≤ 251)
    (whole : covered.length = n.toNat + 1) (sum : byteSum (n :: covered) ≠ 0) (after : List LineChar) :
    judgeFrame ((n :: covered).map cleanChar ++ after) = .bad := by
  have taken : (covered.map cleanChar ++ after).take (n.toNat + 1) = covered.map cleanChar := by
    rw [← whole, List.take_left' (List.length_map _)]
  have values : (covered.map cleanChar).map LineChar.value = covered := by simp [cleanChar, Function.comp_def]
  have clean : (covered.map cleanChar).any LineChar.damaged = false := by simp [cleanChar]
  have enough : ¬(covered.map cleanChar ++ after).length < n.toNat + 1 := by
    rw [List.length_append, List.length_map]
    omega
  rw [List.map_cons, List.cons_append, judgeFrame_length low high, taken, clean, values, if_neg Bool.false_ne_true, if_neg enough]
  exact if_neg sum

/-- A damaged character before the frame's end. -/
theorem judgeFrame_damaged {before : List Byte} {d : LineChar} (damaged : d.damaged = true)
    (early : ∀ n more, before = n :: more → more.length ≤ n.toNat) (after : List LineChar) :
    judgeFrame (before.map cleanChar ++ d :: after) = .bad := by
  cases before with
  | nil => exact if_pos (.inl damaged)
  | cons n more =>
    rw [List.map_cons, List.cons_append]
    by_cases inRange : 1 ≤ n.toNat ∧ n.toNat ≤ 251
    · have reached : d ∈ (more.map cleanChar ++ d :: after).take (n.toNat + 1) := by
        have := early n more rfl
        rw [List.take_append, List.length_map, show n.toNat + 1 - more.length = n.toNat - more.length + 1 by omega]
        simp
      rw [judgeFrame_length inRange.1 inRange.2]
      exact if_pos (List.any_eq_true.mpr ⟨d, reached, damaged⟩)
    · exact judgeFrame_badLength (by omega) _

/-! ### The hunt after a bad frame (R179) -/

/-- A character that starts no frame. -/
def StartsNone (c : LineChar) : Prop := c.damaged = true ∨ c.value ≠ 0x5A

/-- A hunt through characters that start no frame finds nothing. -/
theorem hunt_startsNone (outside : Outside) (fuel : Nat) {chars : List LineChar} (noStart : ∀ c ∈ chars, StartsNone c)
    (s : State) : hunt outside fuel chars s = { s with rx := .hunt } := by
  induction fuel generalizing chars with
  | zero => rfl
  | succ fuel ih =>
    cases chars with
    | nil => rfl
    | cons c rest =>
      obtain ⟨first, others⟩ := List.forall_mem_cons.mp noStart
      exact (if_pos first).trans (ih others)

/-- A frame judged bad is counted, and the hunt resumes at the character after its start byte. -/
theorem hunt_bad (outside : Outside) (fuel : Nat) {chars : List LineChar} (bad : judgeFrame chars = .bad) (s : State) :
    hunt outside (fuel + 1) (cleanChar 0x5A :: chars) s = hunt outside fuel chars (badFrameCounted s) := by
  have starts : ¬ ((cleanChar 0x5A).damaged = true ∨ (cleanChar 0x5A).value ≠ 0x5A) := by simp [cleanChar]
  rw [hunt, if_neg starts, bad]

/-- Characters taken with no character lost. -/
theorem takeChars_of_not_drop {run : LineRun} {s : State} (taken : run.chars ≠ []) (hdrop : s.lineDrop = false) :
    takeChars run s =
      restartLineGap (hunt run.outside (heldChars s.rx ++ run.chars).length (heldChars s.rx ++ run.chars)
        { s with lineStart := false, lineDrop := false }) := by
  simp [takeChars, taken, hdrop]

/-- A bad frame among whose characters no other starts: it is counted and dropped. -/
theorem exec_badFrame_dropped {run : LineRun} {s : State} {chars : List LineChar} (taken : run.chars ≠ [])
    (hdrop : s.lineDrop = false) (all : heldChars s.rx ++ run.chars = cleanChar 0x5A :: chars) (bad : judgeFrame chars = .bad)
    (noStart : ∀ c ∈ chars, StartsNone c) : exec (.badFrame run) s = .next (settle (badFrameSeen s)) := by
  show done (takeChars run s) = _
  rw [takeChars_of_not_drop taken hdrop, all, List.length_cons, hunt_bad _ _ bad, hunt_startsNone _ _ noStart]
  rfl

/-- Characters taken by a receiver that hunts with its gap limit stopped. -/
theorem takeChars_hunting {chars : List LineChar} (taken : chars ≠ []) (outside : Outside) {s : State} (hrx : s.rx = .hunt)
    (hgap : s.lineGap = none) (hdrop : s.lineDrop = false) :
    takeChars { chars := chars, outside := outside } s = restartLineGap (hunt outside chars.length chars (received s)) := by
  rw [takeChars_of_not_drop taken hdrop, received_of_hunting hrx hgap, hrx]
  rfl

/-- A bad frame that a receiver finds while it hunts: it is counted, and its characters after the start byte are taken again. -/
theorem exec_badFrame_again {chars : List LineChar} (bad : judgeFrame chars = .bad) (outside : Outside) {s : State}
    (hrx : s.rx = .hunt) (hgap : s.lineGap = none) (hdrop : s.lineDrop = false) :
    exec (.badFrame { chars := cleanChar 0x5A :: chars, outside := outside }) s =
      exec (.badFrame { chars := chars, outside := outside }) (badFrameSeen s) := by
  have taken : chars ≠ [] := by
    rintro rfl
    cases bad
  show done (takeChars _ s) = done (takeChars _ (badFrameSeen s))
  rw [takeChars_hunting (List.cons_ne_nil _ _) outside hrx hgap hdrop, takeChars_hunting taken outside rfl rfl rfl,
    List.length_cons, hunt_bad _ _ bad]
  rfl

theorem startsNone_cleanChar {bytes : List Byte} (h : ∀ b ∈ bytes, b ≠ 0x5A) : ∀ c ∈ bytes.map cleanChar, StartsNone c :=
  List.forall_mem_map.mpr fun b mem => .inr (h b mem)

/-- Settles O9. -/
theorem badFramesCountedAndDropped : Obligations.BadFramesCountedAndDropped := by
  refine ⟨fun covered outside s whole low high noStart sum hrx hdrop => ?_, fun taken v outside s hrx noStart early hdrop => ?_,
    fun held rest outside s hrx hgap hdrop shown => ?_, fun n outside s hrx hdrop length => ?_⟩
  · cases covered with
    | nil => cases whole
    | cons n covered =>
      have bad := judgeFrame_badSum low high (Nat.succ.inj whole) sum []
      rw [List.append_nil] at bad
      exact exec_badFrame_dropped (List.cons_ne_nil _ _) hdrop (by rw [hrx]; rfl) bad (startsNone_cleanChar noStart)
  · refine exec_badFrame_dropped (List.cons_ne_nil _ _) hdrop (by rw [hrx]; rfl)
      (judgeFrame_damaged (d := { value := v, damaged := true }) rfl early []) fun c mem => ?_
    obtain before | last := List.mem_append.mp mem
    · exact startsNone_cleanChar noStart c before
    · rw [List.mem_singleton.mp last]
      exact .inl rfl
  · refine exec_badFrame_again ?_ outside hrx hgap hdrop
    obtain ⟨n, rfl, length⟩ | ⟨n, covered, rfl, low, high, whole, sum⟩ | ⟨before, d, rfl, damaged, early⟩ := shown
    · exact judgeFrame_badLength length rest
    · exact judgeFrame_badSum low high whole sum rest
    · exact (congrArg judgeFrame (List.append_assoc ..)).trans (judgeFrame_damaged damaged early rest)
  · refine exec_badFrame_dropped (List.cons_ne_nil _ _) hdrop (by rw [hrx]; rfl) (judgeFrame_badLength length [])
      (startsNone_cleanChar (bytes := [n]) fun b mem => ?_)
    rw [List.mem_singleton.mp mem]
    rintro rfl
    exact absurd length (by decide)

end Sys2Proof.Machine
end

section
/-! PROOFS. O5 and O10 to O13: the resets, the frames that are not served, the timing of the line, and the device requests. -/

namespace Sys2Proof.Machine

open Sys2Proof.Claims

/-! ### O5: the resets (R186, R187) -/

/-- A reset lane section has its HOLD outputs as they are at rest. -/
theorem settleLane_resetLaneSection (L : Lane) : settleLane (resetLaneSection L) = resetLaneSection L := rfl

/-- No scope of a reset part has an enabled flag, so ATTN is released (R169). -/
theorem attnLevel_of_disabled {s : State} (device : s.deviceEnable = 0) (lanes : ∀ l : LaneId, (s.lane l).enable = 0) :
    attnLevel s = false := by
  rw [attnLevel_eq, decide_eq_false_iff_not]
  simp [device, lanes]

/-- What a reset has made of the part when its outputs have been judged. -/
theorem settle_resetAll (straps : BitVec 2) (s : State) : settle (resetAll straps s) = afterReset straps s := by
  refine State.ext_lanes (fun l => ?_) ?_
  · rw [lane_settle, lane_resetAll, settleLane_resetLaneSection]
    simp [afterReset, resetLaneSection, State.lane]
  · have released : (settle (resetAll straps s)).attn = false :=
      attnLevel_of_disabled rfl fun l => by rw [State.lane_mapLanes, lane_resetAll]; rfl
    exact congrArg (fun attn => { afterReset straps s with attn := attn }) released

/-- Settles O5. -/
theorem resetsRestoreTheResetState : Obligations.ResetsRestoreTheResetState := by
  intro straps s
  refine ⟨congrArg Host.Outcome.next (settle_resetAll straps s), fun armed empty => ?_⟩
  have acts : resetActs straps s = resetAll straps s := if_pos ((resetDue_iff s).mpr ⟨armed, empty⟩)
  show done (resetActs straps s) = _
  rw [acts, done, settle_resetAll]

/-! ### O10: frames not served (R181, R182, R186) -/

/-- A kind byte outside Table 11-3 names no block. -/
theorem requestOf_unknown (outside : Outside) {kind : Byte} (unknown : kind ∉ knownKinds) :
    requestOf outside kind = serveUnknown := by
  simp only [knownKinds, List.mem_cons, not_or] at unknown
  simp only [requestOf, unknown, if_false]

/-- Settles O10. -/
theorem framesNotServed : Obligations.FramesNotServed := by
  refine ⟨fun k b outside s hs unknown => ?_, fun i k b s frame armed full => ?_, fun i k b s frame armed => ?_⟩
  · show done (frameCompletes (requestOf outside k) k b s) = _
    rw [requestOf_unknown outside unknown, frameCompletes_replies hs, replyKind_eq]
    rfl
  · obtain ⟨outside, e⟩ := exec_frame frame s
    rw [e, frameCompletes_full armed full]
    rfl
  · obtain ⟨outside, e⟩ := exec_frame frame s
    rw [e, frameCompletes_armed armed]
    rfl

/-! ### O11: the timing of the line (R177, R180, R181, R186) -/

theorem lineGapExpires_of_silence {taken : List Byte} {since : Nat} {s : State} (hrx : s.rx = .frame taken)
    (hgap : s.lineGap = some since) (silent : since + 20 < s.elapsed) :
    lineGapExpires s = badFrameCounted (lineHunt s) := by
  refine if_pos ?_
  have due : since + (20 + 1) ≤ s.elapsed := silent
  simpa [lineGapDue, inFrame, hrx, hgap, timerDue, Config.gapLimit] using due

/-- STXD rests high when no frame is held (R177). -/
theorem stxdRestsHigh_iff (s : State) : stxdRestsHigh s = true ↔ s.area = [] := by
  cases h : s.area <;> simp [stxdRestsHigh, sending, h]

/-- A character that a reset found in progress is lost whole (R186). -/
theorem takeChars_lost (c : LineChar) (rest : List LineChar) (outside : Outside) {s : State} (drop : s.lineDrop = true)
    (hrx : s.rx = .hunt) (hgap : s.lineGap = none) :
    takeChars { chars := c :: rest, outside := outside } s = takeChars { chars := rest, outside := outside } (received s) := by
  have lost : takeChars { chars := c :: rest, outside := outside } s =
      restartLineGap (hunt outside rest.length rest (received s)) := by
    rw [← received_of_hunting hrx hgap]
    simp [takeChars, drop, hrx, heldChars]
  rw [lost]
  cases rest with
  | nil => rfl
  | cons d rest => exact (takeChars_hunting (s := received s) (List.cons_ne_nil d rest) outside rfl rfl rfl).symm

/-- Settles O11. -/
theorem lineTimingEvents : Obligations.LineTimingEvents := by
  refine ⟨fun taken since s hrx hgap silent => ?_, fun s => rfl, fun f rest s held => ⟨?_, _, rfl, ?_, ?_⟩,
    fun c rest outside s drop hrx hgap => congrArg done (takeChars_lost c rest outside drop hrx hgap)⟩
  · exact congrArg done (lineGapExpires_of_silence hrx hgap silent)
  · simp [stxdRestsHigh, sending, held]
  · rw [replyLeaves, held]
    rfl
  · rw [stxdRestsHigh_iff, settle_area, replyLeaves, held]
    exact Iff.rfl

/-! ### O12 and O13: the device requests (R184 to R186) -/

theorem identify_served : ServedBy .identify 0x01 serveIdentify := ⟨by decide, fun _ => rfl, fun _ _ => rfl⟩
theorem getTime_served : ServedBy .getTime 0x02 serveGetTime := ⟨by decide, fun _ => rfl, fun _ _ => rfl⟩
theorem setTime_served : ServedBy .setTime 0x03 serveSetTime := ⟨by decide, fun _ => rfl, fun _ _ => rfl⟩
theorem resetDevice_served : ServedBy .resetDevice 0x04 serveResetDevice := ⟨by decide, fun _ => rfl, fun _ _ => rfl⟩

/-- A request of no lane whose body is of another length is BAD_LENGTH (R188). -/
theorem ServedBy.badLength {request : List Byte → Instr} {kind : Byte} {n : Nat} {serve : Request} {s : State}
    (h : ServedBy request kind (withLength n serve)) (hs : Serves s) {body : List Byte} (length : body.length ≠ n) :
    RefusedAs (request body) 0x03 s :=
  h.refused hs (r := .badLength) (if_neg length)

/-- Settles O12. -/
theorem identifyAndGetTime : Obligations.IdentifyAndGetTime := by
  intro s hs
  refine ⟨fun body given => ?_, identify_served.ofLength hs rfl rfl, getTime_served.ofLength hs rfl rfl⟩
  have length : body.length ≠ 0 := mt List.length_eq_zero_iff.mp given
  exact ⟨identify_served.badLength hs length, getTime_served.badLength hs length⟩

theorem laneHolds_iff (L : Lane) : laneHolds L = true ↔ L.queue ≠ [] ∨ L.portA.slot ≠ none ∨ L.portB.slot ≠ none := by
  simp [laneHolds, or_assoc, Option.isSome_iff_ne_none]

/-- Whether some lane holds a record (R185). -/
theorem any_laneHolds_iff (s : State) : s.lanes.toList.any laneHolds = true ↔ ∃ l : LaneId, laneHolds (s.lane l) = true := by
  rw [List.any_eq_true]
  constructor
  · rintro ⟨L, mem, holds⟩
    obtain ⟨i, bound, rfl⟩ := Vector.mem_iff_getElem.mp (Vector.mem_toList_iff.mp mem)
    exact ⟨⟨i, bound⟩, holds⟩
  · rintro ⟨l, holds⟩
    exact ⟨s.lane l, Vector.mem_toList_iff.mpr (Vector.getElem_mem l.isLt), holds⟩

/-- Settles O13. -/
theorem setTimeAndResetDevice : Obligations.SetTimeAndResetDevice := by
  intro s hs
  have judged : (received s).lanes.toList.any laneHolds = true ↔
      ∃ l : LaneId, (s.lane l).queue ≠ [] ∨ (s.lane l).portA.slot ≠ none ∨ (s.lane l).portB.slot ≠ none :=
    (any_laneHolds_iff s).trans (exists_congr fun l => laneHolds_iff (s.lane l))
  refine ⟨fun body => setTime_served.badLength hs, fun body given => ?_, fun body length => ⟨fun holds => ?_, fun empty => ?_⟩,
    resetDevice_served.ofLength hs rfl rfl⟩
  · exact resetDevice_served.badLength hs (mt List.length_eq_zero_iff.mp given)
  · exact setTime_served.refused hs (r := .notEmpty) ((if_pos length).trans (if_pos (judged.mpr holds)))
  · refine setTime_served.ofLength hs length (if_neg fun any => ?_)
    obtain ⟨l, holds⟩ := judged.mp any
    obtain ⟨queue, slotA, slotB⟩ := empty l
    exact holds.elim (· queue) (Or.elim · (· slotA) (· slotB))

end Sys2Proof.Machine
end

section
/-! PROOFS. O7: the requests that take lanes 0 to 3 and have a fixed length (Table 11-6). Each is served by a block behind the shared
judging of the lane and of the length (R188), which `ServedBy.laneJudged` reads once; what is left is which block serves which kind. -/

namespace Sys2Proof.Machine

open Sys2Proof.Claims

/-! ### The requests of a lane, their kinds and their blocks (Table 11-3) -/

theorem laneConfig_served : ServedBy .laneConfig 0x10 serveLaneConfig := ⟨by decide, fun _ => rfl, fun _ _ => rfl⟩
theorem start_served : ServedBy .start 0x11 serveStart := ⟨by decide, fun _ => rfl, fun _ _ => rfl⟩
theorem stop_served : ServedBy .stop 0x12 serveStop := ⟨by decide, fun _ => rfl, fun _ _ => rfl⟩
theorem resetLane_served : ServedBy .resetLane 0x13 serveResetLane := ⟨by decide, fun _ => rfl, fun _ _ => rfl⟩
theorem linesSet_served : ServedBy .linesSet 0x14 serveLinesSet := ⟨by decide, fun _ => rfl, fun _ _ => rfl⟩
theorem linesDir_served : ServedBy .linesDir 0x15 serveLinesDir := ⟨by decide, fun _ => rfl, fun _ _ => rfl⟩

/-- LINES_READ, for whatever the outside gives the pins when it is served. -/
theorem linesRead_served (outside : Outside) :
    ServedBy (fun body => .linesRead { body := body, outside := outside }) 0x16 (serveLinesRead outside) :=
  ⟨by decide, fun _ => rfl, fun _ _ => rfl⟩

theorem keymapRead_served : ServedBy .keymapRead 0x21 serveKeymapRead := ⟨by decide, fun _ => rfl, fun _ _ => rfl⟩
theorem portConfig_served : ServedBy .portConfig 0x28 servePortConfig := ⟨by decide, fun _ => rfl, fun _ _ => rfl⟩
theorem forget_served : ServedBy .forget 0x32 serveForget := ⟨by decide, fun _ => rfl, fun _ _ => rfl⟩
theorem fetch_served : ServedBy .fetch 0x38 serveFetch := ⟨by decide, fun _ => rfl, fun _ _ => rfl⟩
theorem purge_served : ServedBy .purge 0x39 servePurge := ⟨by decide, fun _ => rfl, fun _ _ => rfl⟩
theorem drawerConfig_served : ServedBy .drawerConfig 0x40 serveDrawerConfig := ⟨by decide, fun _ => rfl, fun _ _ => rfl⟩
theorem kick_served : ServedBy .kick 0x41 serveKick := ⟨by decide, fun _ => rfl, fun _ _ => rfl⟩

/-- Settles O7. -/
theorem laneAndLengthJudgedFirst : Obligations.LaneAndLengthJudgedFirst :=
  ⟨laneConfig_served.laneJudged, start_served.laneJudged, stop_served.laneJudged, resetLane_served.laneJudged,
    linesSet_served.laneJudged, linesDir_served.laneJudged, fun outside => (linesRead_served outside).laneJudged,
    keymapRead_served.laneJudged, portConfig_served.laneJudged, forget_served.laneJudged, fetch_served.laneJudged,
    purge_served.laneJudged, drawerConfig_served.laneJudged, kick_served.laneJudged, clearFault_served.laneJudged,
    readCounters_served.laneJudged, clearCounters_served.laneJudged⟩

end Sys2Proof.Machine
end

section
/-! PROOFS. O1: the command at the front of the queue is taken out and served on what is left (log entry 24). -/

namespace Sys2Proof.Machine

/-- Settles O1, by the branch of the step for a queue that is not empty. -/
theorem stepRunsFrontCommand : Obligations.StepRunsFrontCommand := by
  intro c rest s waiting
  rw [step, waiting]

end Sys2Proof.Machine
end
